-- ==== Sys2Proof/Config.lean ====
section
/-! DEFINITION. The parameters of the design, each a named constant as rules R5 and R6 ask, and the free values: the
bits that only the environment decides and the one count the spec leaves open. A free value has no body, so nothing
proved here can depend on what it is.

The widths are here and the types of Word.lean are made of them, so that an audit changes a number in one place (R6).
Five things follow the numbers and do not read them, because the spec writes them out beside the numbers: the words of
the opcode table (Decode.lean, Laws/PerInstr.lean), the codes and addresses below, the restatements in Trace.lean and
Closed.lean, the statements, and the tests. After a change they show where the spec itself must follow. -/

namespace Sys2Proof.Config

/-! ### Constants of rule R5

The codes, levels and addresses among them are what the spec took from general knowledge (PRESUMED, unsafe; log entry
19). -/

/-- `REQ_BITS` (R5): the width of `RequestByte`. -/
@[simp] abbrev reqBits : Nat := 8
/-- `ACK_BITS` (R5): the width of `AckPattern` and the number of bits read in the acknowledge phase. -/
@[simp] abbrev ackBits : Nat := 3
/-- `DATA_BITS` (R5): the width of `Word` and the number of bits of a data phase. -/
@[simp] abbrev dataBits : Nat := 32
/-- `PARITY_BITS` (R5): a parity is one `Bit` (R55, R61), the type of `PARRX`. -/
@[simp] abbrev parityBits : Nat := 1
/-- `ADDR_FIELD_BITS` (R5): the width of `AddressField`. -/
@[simp] abbrev addrFieldBits : Nat := 2
/-- The lowest bit of the register-address field in a byte address, the 2 of "bits 2–3" (R5, R6, R54). -/
@[simp] abbrev addrFieldLsb : Nat := 2
/-- The bits of a byte operation and of a byte address: "iterate 8 bits LSB-first" (R32, R83, R84). -/
@[simp] abbrev byteBits : Nat := 8
/-- The width of `op` in a command word (R66). -/
@[simp] abbrev commandOpBits : Nat := 4
/-- The width of a command word `{op, arg8, wdata}` (R66). -/
@[simp] abbrev commandBits : Nat := commandOpBits + byteBits + dataBits
/-- `TRN_CYCLES` (R5, R62): clock cycles per turnaround. -/
def trnCycles : Nat := 1
/-- `IDLE_BITS` (R5, R63): idle bits that end every transaction. -/
def idleBits : Nat := 1
/-- `IDLE_VALUE` (R5, R63, D9): the level driven during the idle bit. -/
def idleValue : Bool := false
/-- The bound of `LINE_RESET_HIGH_CYCLES`, the ">=50" of R5 and R6. -/
@[simp] def lineResetMinHighCycles : Nat := 50
/-- `LINE_RESET_ZERO_BITS` (R5, R64): the all-zero byte after the high run. -/
def lineResetZeroBits : Nat := byteBits
/-- `LINE_RESET_PASSES` (R5, R64, D11). -/
def lineResetPasses : Nat := 2
/-- `WAIT_RETRIES` (R5, R100, D20): `TRANSFER` sends its request once and never again, so the block has no use of
this number but to say that it is 0. -/
def waitRetries : Nat := 0
/-- `ACK_OK` (R5, R58, D6). -/
def ackOk : BitVec ackBits := 0b001#3
/-- `ACK_WAIT` (R5, R58, D6). -/
def ackWait : BitVec ackBits := 0b010#3
/-- `ACK_FAULT` (R5, R58, D6). -/
def ackFault : BitVec ackBits := 0b100#3
/-- `PORT_DP` (R5, R52, D2). -/
def portDp : Bool := false
/-- `PORT_AP` (R5, R52, D2). -/
def portAp : Bool := true
/-- `DIR_WRITE` (R5, R53, D3). -/
def dirWrite : Bool := false
/-- `DIR_READ` (R5, R53, D3). -/
def dirRead : Bool := true
/-- `DP_IDCODE` (R5, R31, D28). -/
def dpIdcode : BitVec byteBits := 0x0#8
/-- `DP_RDBUFF` (R5, R31, D28): the one register address the block itself uses. -/
def dpRdbuff : BitVec byteBits := 0xC#8
/-- `AP_CSW` (R5, R31, D28). -/
def apCsw : BitVec byteBits := 0x0#8
/-- `AP_TAR` (R5, R31, D28). -/
def apTar : BitVec byteBits := 0x4#8
/-- `AP_DRW` (R5, R31, D28). -/
def apDrw : BitVec byteBits := 0xC#8
/-- `MAX_TARGETS` (R5, R24). -/
def maxTargets : Nat := 1
/-- The example IDCODE of R6; the block does not use it. -/
def exampleIdcode : BitVec dataBits := 0x4BA00477#32

/-! ### Free values -/

/-- How many high cycles a pass of the line reset has beyond the least number (R64, D10: OPEN; DEDUCED, safe; log entry 6). -/
opaque lineResetExtraHighCycles : Nat

/-- `LINE_RESET_HIGH_CYCLES` (R5): any number of cycles that is at least 50. -/
def lineResetHighCycles : Nat := lineResetMinHighCycles + lineResetExtraHighCycles

/-- The bit the environment puts on the released line at a sample that no scripted answer of `State.env` covers
(R14, U5, U14): free, one for each value of the draw counter (DESIGN CHOICE, safe; log entry 5). -/
opaque environmentBit : Nat → Bool

/-- The bit a sample sees while the block itself drives the line (R14, U2): unspecified, so free, and not tied to
the driven level; one for each value of the draw counter (DESIGN CHOICE, safe; log entry 5). -/
opaque sampleWhileDriven : Nat → Bool

end Sys2Proof.Config
end

