-- ==== Sys2Proof/Word.lean ====
section
/-! DEFINITION. The plain values of the block, of the widths Config.lean names: a bit, a byte, a request byte, the
address field, the data word, the host command word and the acknowledge pattern (00_scope.md section 6.1, rules R35,
R51, R54, R58, R66). All values are unsigned and bit 0 is the least significant. -/

namespace Sys2Proof

/-- A bit or a line level: `true` is 1 (high), `false` is 0 (low) (00_scope.md section 6.1). -/
abbrev Bit := Bool

/-- A byte operand (R83) or a byte address (R34). -/
abbrev Byte := BitVec Config.byteBits

/-- The header of a transaction (R51). It is sent with `WRITE_BYTE` (R91), built as a byte (R110) and handed over in the
`arg8` of a command (R66), so `REQ_BITS` is the width of a byte; were it another, these three rules would have to say
what they mean and Lean refuses the model. -/
abbrev RequestByte := BitVec Config.reqBits

/-- The register-address field of a byte address (R34, R54). -/
abbrev AddressField := BitVec Config.addrFieldBits

/-- The one data width of a data phase (R35). -/
abbrev Word := BitVec Config.dataBits

/-- A host command word `{op, arg8, wdata}` (R66). -/
abbrev CommandWord := BitVec Config.commandBits

/-- An acknowledge pattern `{a2, a1, a0}`, `a0` received first (R58). -/
abbrev AckPattern := BitVec Config.ackBits

end Sys2Proof
end

