-- ==== Sys2Proof/Syntax.lean ====
section
/-! DEFINITION. The inputs of the block as syntax: the operand kinds, the three shapes a word has at a port (host
command, request header, acknowledge pattern) and `Instr`, one constructor for each row of the opcode table
(30_encoding.md rules R57, R58, R66, R67, R68). -/

namespace Sys2Proof

/-- The direction of the data line, the Link State (R11). -/
inductive Dir where
  | output
  | input
deriving DecidableEq, Repr

/-- The port selector of a request: the Debug Port or the Access Port (R30, R52). -/
inductive Port where
  | dp
  | ap
deriving DecidableEq, Repr

/-- The direction of a request (R53). -/
inductive Access where
  | write
  | read
deriving DecidableEq, Repr

/-- A word as it stands at one of the block's ports. The three formats of the opcode table never share a port, so the
port says the format: CMD44 at the host command port (R66, D29), REQ8 as the header of a transaction with the data
word that goes with it (R50, R51; the word of a read header is ignored, R97), ACK3 as the three bits on the line in
the acknowledge phase (R58). -/
inductive Frame where
  | command (w : CommandWord)
  | request (header : RequestByte) (wdata : Word)
  | ack (pattern : AckPattern)
deriving DecidableEq, Repr

/-- One constructor for each row of the opcode table. The twelve host commands and the four reserved codes are the
CMD44 rows, the sixteen request headers the REQ8 rows (a header that announces a write carries the word to write), and
the eight patterns the ACK3 rows. -/
inductive Instr where
  /-- `SET_DIR d` (R80). -/
  | setDir (d : Dir)
  /-- `WRITE_BIT b` (R81). -/
  | writeBit (b : Bit)
  /-- `READ_BIT` (R82). -/
  | readBit
  /-- `WRITE_BYTE v` (R83). -/
  | writeByte (v : Byte)
  /-- `READ_BYTE` (R84). -/
  | readByte
  /-- `LINE_RESET` (R90). -/
  | lineReset
  /-- `TRANSFER req, wdata` (R91). -/
  | transfer (req : RequestByte) (wdata : Word)
  /-- `FORMAT_REQUEST port, rnw, addr` (R110). -/
  | formatRequest (port : Port) (rnw : Access) (addr : Byte)
  /-- `DP_READ addr` (R111). -/
  | dpRead (addr : Byte)
  /-- `DP_WRITE addr, wdata` (R112). -/
  | dpWrite (addr : Byte) (wdata : Word)
  /-- `AP_READ addr` (R114). -/
  | apRead (addr : Byte)
  /-- `AP_WRITE addr, wdata` (R113). -/
  | apWrite (addr : Byte) (wdata : Word)
  /-- Command code `0xC`, reserved (R67). -/
  | reservedC
  /-- Command code `0xD`, reserved (R67). -/
  | reservedD
  /-- Command code `0xE`, reserved (R67). -/
  | reservedE
  /-- Command code `0xF`, reserved (R67). -/
  | reservedF
  /-- Header `0xA5`: DP read of `0x0` (R57). -/
  | reqDpRd0
  /-- Header `0x8D`: DP read of `0x4` (R57). -/
  | reqDpRd4
  /-- Header `0x95`: DP read of `0x8` (R57). -/
  | reqDpRd8
  /-- Header `0xBD`: DP read of `0xC` (R57). -/
  | reqDpRdC
  /-- Header `0x81`: DP write of `0x0` (R57). -/
  | reqDpWr0 (wdata : Word)
  /-- Header `0xA9`: DP write of `0x4` (R57). -/
  | reqDpWr4 (wdata : Word)
  /-- Header `0xB1`: DP write of `0x8` (R57). -/
  | reqDpWr8 (wdata : Word)
  /-- Header `0x99`: DP write of `0xC` (R57). -/
  | reqDpWrC (wdata : Word)
  /-- Header `0x87`: AP read of `0x0` (R57). -/
  | reqApRd0
  /-- Header `0xAF`: AP read of `0x4` (R57). -/
  | reqApRd4
  /-- Header `0xB7`: AP read of `0x8` (R57). -/
  | reqApRd8
  /-- Header `0x9F`: AP read of `0xC` (R57). -/
  | reqApRdC
  /-- Header `0xA3`: AP write of `0x0` (R57). -/
  | reqApWr0 (wdata : Word)
  /-- Header `0x8B`: AP write of `0x4` (R57). -/
  | reqApWr4 (wdata : Word)
  /-- Header `0x93`: AP write of `0x8` (R57). -/
  | reqApWr8 (wdata : Word)
  /-- Header `0xBB`: AP write of `0xC` (R57). -/
  | reqApWrC (wdata : Word)
  /-- Pattern `0b001` on the line: OK (R58). -/
  | ackOk
  /-- Pattern `0b010` on the line: WAIT (R58). -/
  | ackWait
  /-- Pattern `0b100` on the line: FAULT (R58). -/
  | ackFault
  /-- Pattern `0b000` on the line: no code of the protocol (R68). -/
  | ackInvalid0
  /-- Pattern `0b011` on the line: no code of the protocol (R68). -/
  | ackInvalid3
  /-- Pattern `0b101` on the line: no code of the protocol (R68). -/
  | ackInvalid5
  /-- Pattern `0b110` on the line: no code of the protocol (R68). -/
  | ackInvalid6
  /-- Pattern `0b111` on the line: no code of the protocol (R68). -/
  | ackInvalid7
deriving DecidableEq, Repr

end Sys2Proof
end

