-- ==== Sys2Proof/WellFormed.lean ====
section
/-! DEFINITION. Which terms of `Instr` a word can carry. Every operand is as wide as its field but one: the address
of `FORMAT_REQUEST`, of which the command word holds bits 3 and 2 only (R66, R110). -/

namespace Sys2Proof

/-- The address bits that reach a request: the bits of the address field, `0xC` (R34, R54). -/
def addressMask : Byte :=
  (BitVec.allOnes Config.addrFieldBits).setWidth Config.byteBits <<< Config.addrFieldLsb

/-- `addr` has no bit set other than bits 3 and 2: it is one of `0x0`, `0x4`, `0x8`, `0xC` (R34). -/
def addressAligned (addr : Byte) : Bool := addr &&& addressMask == addr

/-- An instruction that its encoding can carry whole. -/
def Instr.wellFormed (i : Instr) : Bool :=
  match i with
  | .formatRequest _ _ addr => addressAligned addr
  | .setDir _ | .writeBit _ | .readBit | .writeByte _ | .readByte | .lineReset | .transfer _ _ => true
  | .dpRead _ | .dpWrite _ _ | .apRead _ | .apWrite _ _ => true
  | .reservedC | .reservedD | .reservedE | .reservedF => true
  | .reqDpRd0 | .reqDpRd4 | .reqDpRd8 | .reqDpRdC | .reqDpWr0 _ | .reqDpWr4 _ | .reqDpWr8 _ | .reqDpWrC _ => true
  | .reqApRd0 | .reqApRd4 | .reqApRd8 | .reqApRdC | .reqApWr0 _ | .reqApWr4 _ | .reqApWr8 _ | .reqApWrC _ => true
  | .ackOk | .ackWait | .ackFault => true
  | .ackInvalid0 | .ackInvalid3 | .ackInvalid5 | .ackInvalid6 | .ackInvalid7 => true

end Sys2Proof
end

