-- ==== Sys2Proof/Decode.lean ====
section
/-! DEFINITION. From a word at a port to an instruction, total, with a named rejection, and back (R57, R58, R66, R67,
R68). -/

namespace Sys2Proof

/-- Why a word is no instruction. -/
inductive DecodeError where
  /-- The byte at the request port is none of the sixteen headers of R57 (R69). -/
  | malformedRequest (header : RequestByte)
deriving DecidableEq, Repr

/-! ### The host command word (R66) -/

/-- `{op, arg8, wdata}`: `op` in bits 43 to 40, `arg8` in bits 39 to 32, `wdata` in bits 31 to 0 (R66). -/
def commandWord (op : BitVec Config.commandOpBits) (arg8 : Byte) (wdata : Word) : CommandWord := op ++ arg8 ++ wdata

/-- Bits 43 to 40 of a command word (R66). -/
def commandOp (w : CommandWord) : BitVec Config.commandOpBits :=
  w.extractLsb' (Config.dataBits + Config.byteBits) Config.commandOpBits

/-- Bits 39 to 32 of a command word (R66). -/
def commandArg8 (w : CommandWord) : Byte := w.extractLsb' Config.dataBits Config.byteBits

/-- Bits 31 to 0 of a command word (R66). -/
def commandWdata (w : CommandWord) : Word := w.extractLsb' 0 Config.dataBits

/-- `arg8[0]` of `SET_DIR`: 0 is Input, 1 is Output (R66, R80). -/
def dirOfBit (b : Bit) : Dir := if b then .output else .input

/-- The bit that names a direction (R66, R80). -/
def bitOfDir (d : Dir) : Bit :=
  match d with
  | .output => true
  | .input => false

/-- The port bit: 0 is the DP, 1 the AP (R52). -/
def portOfBit (b : Bit) : Port := if b = Config.portAp then .ap else .dp

/-- The port bit of a port (R52). -/
def bitOfPort (p : Port) : Bit :=
  match p with
  | .dp => Config.portDp
  | .ap => Config.portAp

/-- The direction bit of a request: 1 is Read, 0 is Write (R53). -/
def accessOfBit (b : Bit) : Access := if b = Config.dirRead then .read else .write

/-- The direction bit of a request's direction (R53). -/
def bitOfAccess (a : Access) : Bit :=
  match a with
  | .write => Config.dirWrite
  | .read => Config.dirRead

/-- The instruction of a host command word: the code selects the row, the row selects the fields it reads, and every
bit no field reads is ignored (R66, R67). The last arm is code `0xF`, the one value of four bits not listed. -/
def decodeCommand (w : CommandWord) : Instr :=
  let arg8 := commandArg8 w
  let wdata := commandWdata w
  match commandOp w with
  | 0x0#4 => .setDir (dirOfBit (arg8.getLsbD 0))
  | 0x1#4 => .writeBit (arg8.getLsbD 0)
  | 0x2#4 => .readBit
  | 0x3#4 => .writeByte arg8
  | 0x4#4 => .readByte
  | 0x5#4 => .lineReset
  | 0x6#4 => .transfer arg8 wdata
  | 0x7#4 => .formatRequest (portOfBit (arg8.getLsbD 0)) (accessOfBit (arg8.getLsbD 1)) (arg8 &&& addressMask)
  | 0x8#4 => .dpRead arg8
  | 0x9#4 => .dpWrite arg8 wdata
  | 0xA#4 => .apRead arg8
  | 0xB#4 => .apWrite arg8 wdata
  | 0xC#4 => .reservedC
  | 0xD#4 => .reservedD
  | 0xE#4 => .reservedE
  | _ => .reservedF

/-! ### The request header (R51, R57) and the acknowledge pattern (R58, R68) -/

/-- The row of a request header, from the table of R57. -/
def decodeRequest (header : RequestByte) (wdata : Word) : Option Instr :=
  match header with
  | 0xA5#8 => some .reqDpRd0
  | 0x8D#8 => some .reqDpRd4
  | 0x95#8 => some .reqDpRd8
  | 0xBD#8 => some .reqDpRdC
  | 0x81#8 => some (.reqDpWr0 wdata)
  | 0xA9#8 => some (.reqDpWr4 wdata)
  | 0xB1#8 => some (.reqDpWr8 wdata)
  | 0x99#8 => some (.reqDpWrC wdata)
  | 0x87#8 => some .reqApRd0
  | 0xAF#8 => some .reqApRd4
  | 0xB7#8 => some .reqApRd8
  | 0x9F#8 => some .reqApRdC
  | 0xA3#8 => some (.reqApWr0 wdata)
  | 0x8B#8 => some (.reqApWr4 wdata)
  | 0x93#8 => some (.reqApWr8 wdata)
  | 0xBB#8 => some (.reqApWrC wdata)
  | _ => none

/-- The row of an acknowledge pattern: every one of the eight patterns has a row (R58, R68). The last arm is
`0b111`, the one value of three bits not listed. -/
def decodeAck (pattern : AckPattern) : Instr :=
  match pattern with
  | 0b000#3 => .ackInvalid0
  | 0b001#3 => .ackOk
  | 0b010#3 => .ackWait
  | 0b011#3 => .ackInvalid3
  | 0b100#3 => .ackFault
  | 0b101#3 => .ackInvalid5
  | 0b110#3 => .ackInvalid6
  | _ => .ackInvalid7

/-- The instruction of a word at a port, or why it is none. -/
def decode (f : Frame) : Except DecodeError Instr :=
  match f with
  | .command w => .ok (decodeCommand w)
  | .request header wdata =>
    match decodeRequest header wdata with
    | some i => .ok i
    | none => .error (.malformedRequest header)
  | .ack pattern => .ok (decodeAck pattern)

/-! ### Encoding -/

/-- A byte whose bit 0 is `b` and whose other bits are 0: the `arg8` of a command with a one-bit operand (R66). -/
def bitArg (b : Bit) : Byte := if b then 0x01#8 else 0x00#8

/-- The `arg8` of `FORMAT_REQUEST`: `port` in bit 0, `rnw` in bit 1, `addr[3:2]` in bits 3 and 2 (R66, R110). -/
def formatArg (port : Port) (rnw : Access) (addr : Byte) : Byte :=
  (addr &&& addressMask) ||| bitArg (bitOfPort port) ||| (bitArg (bitOfAccess rnw) <<< 1)

/-- The word of an instruction at its port, with every bit that no field reads at 0 (R57, R58, R66, R67). -/
def encode (i : Instr) : Frame :=
  match i with
  | .setDir d => .command (commandWord 0x0#4 (bitArg (bitOfDir d)) 0)
  | .writeBit b => .command (commandWord 0x1#4 (bitArg b) 0)
  | .readBit => .command (commandWord 0x2#4 0 0)
  | .writeByte v => .command (commandWord 0x3#4 v 0)
  | .readByte => .command (commandWord 0x4#4 0 0)
  | .lineReset => .command (commandWord 0x5#4 0 0)
  | .transfer req wdata => .command (commandWord 0x6#4 req wdata)
  | .formatRequest port rnw addr => .command (commandWord 0x7#4 (formatArg port rnw addr) 0)
  | .dpRead addr => .command (commandWord 0x8#4 addr 0)
  | .dpWrite addr wdata => .command (commandWord 0x9#4 addr wdata)
  | .apRead addr => .command (commandWord 0xA#4 addr 0)
  | .apWrite addr wdata => .command (commandWord 0xB#4 addr wdata)
  | .reservedC => .command (commandWord 0xC#4 0 0)
  | .reservedD => .command (commandWord 0xD#4 0 0)
  | .reservedE => .command (commandWord 0xE#4 0 0)
  | .reservedF => .command (commandWord 0xF#4 0 0)
  | .reqDpRd0 => .request 0xA5#8 0
  | .reqDpRd4 => .request 0x8D#8 0
  | .reqDpRd8 => .request 0x95#8 0
  | .reqDpRdC => .request 0xBD#8 0
  | .reqDpWr0 wdata => .request 0x81#8 wdata
  | .reqDpWr4 wdata => .request 0xA9#8 wdata
  | .reqDpWr8 wdata => .request 0xB1#8 wdata
  | .reqDpWrC wdata => .request 0x99#8 wdata
  | .reqApRd0 => .request 0x87#8 0
  | .reqApRd4 => .request 0xAF#8 0
  | .reqApRd8 => .request 0xB7#8 0
  | .reqApRdC => .request 0x9F#8 0
  | .reqApWr0 wdata => .request 0xA3#8 wdata
  | .reqApWr4 wdata => .request 0x8B#8 wdata
  | .reqApWr8 wdata => .request 0x93#8 wdata
  | .reqApWrC wdata => .request 0xBB#8 wdata
  | .ackOk => .ack 0b001#3
  | .ackWait => .ack 0b010#3
  | .ackFault => .ack 0b100#3
  | .ackInvalid0 => .ack 0b000#3
  | .ackInvalid3 => .ack 0b011#3
  | .ackInvalid5 => .ack 0b101#3
  | .ackInvalid6 => .ack 0b110#3
  | .ackInvalid7 => .ack 0b111#3

/-! ### Words as the opcode table numbers them -/

/-- The word of the opcode table with value `w` and `nbits` bits, at the port its format belongs to: a word of more
than one byte is a CMD44 command word; a word of at most one byte is an ACK3 pattern when it fits three bits and a
REQ8 header otherwise (bit 7, `park`, of every header of R57 is 1, so the two formats share no value); the data word
that goes with a header is 0. `none` where `w` does not fit its format (DESIGN CHOICE, safe; log entry 8). -/
def tableFrame (nbits w : Nat) : Option Frame :=
  if nbits ≤ Config.reqBits then
    if w < 2 ^ Config.ackBits then some (.ack (BitVec.ofNat Config.ackBits w))
    else if w < 2 ^ Config.reqBits then some (.request (BitVec.ofNat Config.reqBits w) 0)
    else none
  else if w < 2 ^ Config.commandBits then some (.command (BitVec.ofNat Config.commandBits w))
  else none

/-- The instruction the decoder reads from a word numbered as the opcode table numbers it. -/
def decodeTableWord (nbits w : Nat) : Option Instr :=
  match tableFrame nbits w with
  | some f =>
    match decode f with
    | .ok i => some i
    | .error _ => none
  | none => none

end Sys2Proof
end

