-- ==== Sys2Proof/Machine/State.lean ====
section
/-! DEFINITION. The state of the block as plain data, its value at reset, and the reasons a step can stop
(10_state.md, 60_exceptions.md, 70_reset_and_hazards.md). -/

namespace Sys2Proof.Machine

open Sys2Proof

/-- One event on the wire (00_scope.md section 6.3). -/
inductive Event where
  /-- `E_DIR(d)`: the direction of the data line is switched to `d`. -/
  | dir (d : Dir)
  /-- `E_DATA(b)`: the driven data level is set to `b`. -/
  | data (b : Bit)
  /-- `E_CLK(l)`: the clock line is set to level `l`. -/
  | clk (l : Bit)
  /-- `E_SAMPLE(b)`: the data line is read and gives `b`. -/
  | sample (b : Bit)
deriving DecidableEq, Repr

/-- The position inside one `TRANSFER` (R18). -/
inductive Phase where
  | idle
  | request
  | trn1
  | ack
  | dataRd
  | parRd
  | trn2
  | dataWr
  | parWr
  | idleBit
deriving DecidableEq, Repr

/-- The class of a transaction's outcome (R16, R140). -/
inductive AckClass where
  | ok
  | wait
  | fault
  | protocolError
deriving DecidableEq, Repr

/-- The fields `ack`, `data` and `parity_ok` of the response record, the Transaction Result (R16). -/
structure TransferResult where
  ack : AckClass
  data : Option Word
  parityOk : Bool
deriving DecidableEq, Repr

/-- What the last operation handed the host, the kind of `RESP` (R16, R90): no operation has ended yet, an operation
with no response ended, a bit, a byte, the constant `success`, or the Transaction Result, whose fields stand in
`State.result`. -/
inductive Reply where
  | noValue
  | nothing
  | bit (b : Bit)
  | byte (v : Byte)
  | success
  | transferResult
deriving DecidableEq, Repr

/-- A response as the host reads it (R16, R66). -/
inductive Response where
  | nothing
  | bit (b : Bit)
  | byte (v : Byte)
  | success
  | result (r : TransferResult)
deriving DecidableEq, Repr

/-- Why the machine stops with a fault. -/
inductive Fault where
  /-- `WRITE_BIT` or `WRITE_BYTE` with `DIR = Input` while `State.callerChecks` is on (U1, R81). Safe. -/
  | writeWhileInput
  /-- `READ_BIT` or `READ_BYTE` with `DIR = Output` while `State.callerChecks` is on (U2, R82). Safe. -/
  | readWhileOutput
  /-- The host reads `RESP` before any operation has ended, when its reset value is "no value": "reading it before the
  first operation ends is a host error; the model faults" (R25); "`fault` (no value)" (U8). Raised by
  `State.readResponse` only, by no instruction and no step. Safe. -/
  | respHasNoValue
deriving DecidableEq, Repr

/-- Why the machine gives an input no meaning. -/
inductive Refusal where
  /-- An instruction with no meaning yet, by its mnemonic; raised by no arm of `exec`. Safe. -/
  | notModelled (mnemonic : String)
  /-- A command code `0xC` to `0xF` (R67, U6); raised by the four reserved rows. Safe. -/
  | reservedCommand (op : BitVec 4)
  /-- A request byte that is none of the sixteen of R57 (R69, U3): at the request port always, as the operand of
  `TRANSFER` while `State.callerChecks` is on. Safe. -/
  | malformedRequest (req : RequestByte)
  /-- An operation presented while a transfer is under way (R86, U7); raised by `step`. Safe. -/
  | operationInFlight
deriving DecidableEq, Repr

/-- The state of the block, then the model's own fields: the inputs that have not been taken yet, the counter of the
free values and the choice between the spec's two treatments of a caller's mistake. -/
@[ext]
structure State where
  /-- `DIR`, the Link State (R11). -/
  dir : Dir
  /-- `SWCLK`, the level of the clock output (R12). -/
  swclk : Bit
  /-- `DOUT`, the level driven while `dir` is `output` (R13). -/
  dout : Bit
  /-- `RESP`: the kind of the last response, with the bit or byte it holds (R16; DEDUCED, safe; log entry 16). -/
  reply : Reply
  /-- `RESP.ack`, `RESP.data`, `RESP.parity_ok`: written by a transfer only (R20). -/
  result : TransferResult
  /-- `PHASE`, the position inside a transfer (R18; DEDUCED, safe; log entry 14). -/
  phase : Phase
  /-- `REQ`, the request byte of the transfer (R10). -/
  req : RequestByte
  /-- `ACKRAW`, the acknowledge bits received (R10). -/
  ackraw : AckPattern
  /-- `DSR`, the data shift register (R10). -/
  dsr : Word
  /-- `PARRX`, the received parity bit (R10). -/
  parrx : Bit
  /-- `TR`, the trace of wire events, oldest first (R22; DEDUCED, safe; log entry 18). -/
  trace : List Event
  /-- Model's own (DEDUCED, safe; log entry 13): the operand `wdata` of the write under way, held while the
  transfer runs (R91, D26). -/
  wdata : Word
  /-- Model's own (DESIGN CHOICE, safe; log entry 5): the answers the environment is known to give to the next samples,
  in order; after them the environment's bits are free (R8, R14). -/
  env : List Bit
  /-- Model's own (DESIGN CHOICE, safe; log entry 5): how many free bits have been drawn. -/
  draws : Nat
  /-- Model's own (DESIGN CHOICE, safe; log entry 1): whether a caller's mistake of U1, U2 or U3 stops the machine (the treatment 93_implementation_defined.md
  gives a model) or runs as the block, which does not check, runs it (R69, R81, R82, R163). No step changes it. -/
  callerChecks : Bool
  /-- Model's own (DESIGN CHOICE, unsafe; log entry 7): the words the host and the environment have still to present, in
  order (R8, R39). -/
  inbox : List Frame
deriving DecidableEq, Repr

/-- The block after reset (R25, R160); the fields for which R25 states no value hold the values of log entries 2, 3
and 4 (DESIGN CHOICE, unsafe); the others are decision D22 (log entry 21). -/
def State.reset : State where
  dir := .input
  swclk := true
  dout := true
  reply := .noValue
  result := { ack := .ok, data := none, parityOk := true }
  phase := .idle
  req := 0
  ackraw := 0
  dsr := 0
  parrx := false
  trace := []
  wdata := 0
  env := []
  draws := 0
  callerChecks := false
  inbox := []

end Sys2Proof.Machine
end

