-- ==== Sys2Proof/Machine/Operands.lean ====
section
/-! DEFINITION. Field assembly and bit order: values as bits least significant first, the request byte, the register
address field (20_memory.md rules R32 to R34, 30_encoding.md rules R51 to R57, R60). -/

namespace Sys2Proof.Machine

open Sys2Proof

/-! ### Bit order -/

/-- The bits of a value in the order they go on the wire: `v[0]` first (R32). -/
def lsbBits {n : Nat} (v : BitVec n) : List Bit := (List.range n).map (fun k => v.getLsbD k)

/-- The number whose bit `k` is the `k`-th bit of the list. -/
def bitsToNat (bits : List Bit) : Nat :=
  match bits with
  | [] => 0
  | b :: rest => b.toNat + 2 * bitsToNat rest

/-- The value whose bit `k` is the `k`-th bit received: the first bit is the least significant (R32, R60). -/
def packLsb (n : Nat) (bits : List Bit) : BitVec n := BitVec.ofNat n (bitsToNat bits)

/-! ### The request byte -/

/-- The register-address field of a byte address, `{addr[3], addr[2]}`: its bit 0 travels first (R54). -/
def addressField (addr : Byte) : AddressField := addr.extractLsb' Config.addrFieldLsb Config.addrFieldBits

/-- The even-parity bit of some bits: 1 when an odd number of them is 1 (R55, R61, D5). -/
def evenParity (bits : List Bit) : Bit := bits.foldl (· ^^ ·) false

/-- `PAR4`: even parity over port, direction and the address field; `start` is not covered (R55, C1). -/
def par4 (port rnw : Bit) (field : AddressField) : Bit := evenParity ([port, rnw] ++ lsbBits field)

/-- `FORMAT_REQUEST(port, rnw, addr)`: the bytes `{park, stop, parity, a3, a2, rnw, port, start}`, so that `start` is
bit 0 and goes first; of `addr` only bits 3 and 2 are read (R34, R51, R57, R110; DEDUCED, unsafe; log entry 15). -/
def formatRequest (port : Port) (rnw : Access) (addr : Byte) : RequestByte :=
  let p := bitOfPort port
  let r := bitOfAccess rnw
  let a := addressField addr
  packLsb Config.reqBits ([true, p, r] ++ lsbBits a ++ [par4 p r a, false, true])

/-- The request asks for a read: `req[2] = 1` (R51, R91, D15). -/
def requestReads (req : RequestByte) : Bool := req.getLsbD 2 == Config.dirRead

/-- `req` is one of the sixteen headers the formatter makes (R57, R69). -/
def isRequest (req : RequestByte) : Bool := (decodeRequest req 0).isSome

end Sys2Proof.Machine
end

