-- ==== Sys2Proof/Machine/Flags.lean ====
section
/-! DEFINITION. What the status fields of the response are computed from: the class of the acknowledge bits, the data
parity and the outcome of a transfer (30_encoding.md rules R59, R61, 60_exceptions.md rules R140 to R146). -/

namespace Sys2Proof.Machine

open Sys2Proof

/-- `ACK_CLASS(x)`: OK, WAIT and FAULT for the three codes, PROTOCOL_ERROR for the five other patterns (R59, R68). -/
def ackClass (x : AckPattern) : AckClass :=
  if x = Config.ackOk then .ok
  else if x = Config.ackWait then .wait
  else if x = Config.ackFault then .fault
  else .protocolError

/-- The 2-bit code of a class at the response port (R140). -/
def AckClass.code (c : AckClass) : BitVec 2 :=
  match c with
  | .ok => 0#2
  | .wait => 1#2
  | .fault => 2#2
  | .protocolError => 3#2

/-- The name of the transport-level error a class stands for; a success has none (R115, R140). -/
inductive TransportError where
  | ackWait
  | ackFault
  | ackProtocolError
deriving DecidableEq, Repr

/-- The error a failed operation is surfaced as (R115, R140). -/
def AckClass.error (c : AckClass) : Option TransportError :=
  match c with
  | .ok => none
  | .wait => some .ackWait
  | .fault => some .ackFault
  | .protocolError => some .ackProtocolError

/-- `PAR32(v)`: the exclusive or of the bits of `v` (R61). -/
def par32 (v : Word) : Bit := evenParity (lsbBits v)

/-- The outcome of a transaction: the class of its acknowledge bits unless that is OK; of a read whose acknowledge was
OK, the word when the received parity matches and PROTOCOL_ERROR with the word discarded when it does not; of a write
whose acknowledge was OK, OK without data (R91, R95, R96, R146). -/
def transferOutcome (reads : Bool) (ackraw : AckPattern) (dsr : Word) (parrx : Bit) : TransferResult :=
  match ackClass ackraw with
  | .ok =>
    if reads then
      if parrx = par32 dsr then { ack := .ok, data := some dsr, parityOk := true }
      else { ack := .protocolError, data := none, parityOk := false }
    else { ack := .ok, data := none, parityOk := true }
  | .wait => { ack := .wait, data := none, parityOk := true }
  | .fault => { ack := .fault, data := none, parityOk := true }
  | .protocolError => { ack := .protocolError, data := none, parityOk := true }

end Sys2Proof.Machine
end

