-- ==== Sys2Proof/Machine/Trace.lean ====
section
/-! DEFINITION. Words about the wire: the three cycle shapes and the shapes of whole operations as lists of events
(00_scope.md section 6.3, 30_encoding.md rules R50, R64, R65, 41_transport.md rules R90, R91). The machine does not
run on these; they say what its trace is. -/

namespace Sys2Proof.Machine

open Sys2Proof

/-- The write cycle `W0` or `W1` (R81). -/
def writeCycle (b : Bit) : List Event := [.data b, .clk false, .clk true]

/-- The read cycle `Rd0` or `Rd1` (R82). -/
def readCycle (b : Bit) : List Event := [.clk false, .clk true, .sample b]

/-- The turnaround cycle `T` (R62). -/
def turnCycle : List Event := [.clk false, .clk true]

/-- One write cycle for each bit, in order. -/
def writeCycles (bits : List Bit) : List Event := bits.flatMap writeCycle

/-- One read cycle for each bit, in order. -/
def readCycles (bits : List Bit) : List Event := bits.flatMap readCycle

/-- The event is `E_CLK(1)`, of which every cycle has one. -/
def Event.isRise (e : Event) : Bool :=
  match e with
  | .clk l => l
  | .dir _ | .data _ | .sample _ => false

/-- The event is a sample. -/
def Event.isSample (e : Event) : Bool :=
  match e with
  | .sample _ => true
  | .dir _ | .data _ | .clk _ => false

/-- The event sets the driven level. -/
def Event.isData (e : Event) : Bool :=
  match e with
  | .data _ => true
  | .dir _ | .clk _ | .sample _ => false

/-- The cycle count of a trace: the number of its `E_CLK(1)` events (00_scope.md section 6.3). -/
def cycleCount (tr : List Event) : Nat := tr.countP Event.isRise

/-- The number of read cycles of a trace. -/
def readCount (tr : List Event) : Nat := tr.countP Event.isSample

/-- The number of write cycles of a trace. -/
def writeCount (tr : List Event) : Nat := tr.countP Event.isData

/-- The request phase, the first turnaround and the acknowledge bits, with which every transaction begins (R50, R91). -/
def headerTrace (req : RequestByte) (ack : AckPattern) : List Event :=
  [.dir .output] ++ writeCycles (lsbBits req) ++ [.dir .input] ++ turnCycle ++ readCycles (lsbBits ack)

/-- `>O W r0..r7 >I T R a0 a1 a2 >O W0` (R91). -/
def nonOkTrace (req : RequestByte) (ack : AckPattern) : List Event :=
  headerTrace req ack ++ [.dir .output] ++ writeCycle Config.idleValue

/-- `>O W r0..r7 >I T R a0 a1 a2 R d0..d31 R p T >O W0` (R91). -/
def readTrace (req : RequestByte) (ack : AckPattern) (data : Word) (parity : Bit) : List Event :=
  headerTrace req ack ++ readCycles (lsbBits data) ++ readCycle parity ++ turnCycle ++ [.dir .output] ++
    writeCycle Config.idleValue

/-- `>O W r0..r7 >I T R a0 a1 a2 T >O W d0..d31 W p W0` (R91). -/
def writeTrace (req : RequestByte) (ack : AckPattern) (data : Word) : List Event :=
  headerTrace req ack ++ turnCycle ++ [.dir .output] ++ writeCycles (lsbBits data) ++ writeCycle (par32 data) ++
    writeCycle Config.idleValue

/-- One pass of the line reset: `n` cycles of 1, then the all-zero byte (R64). -/
def lineResetPassTrace (n : Nat) : List Event :=
  writeCycles (List.replicate n true) ++ writeCycles (List.replicate Config.lineResetZeroBits false)

/-- `>O`, then the pass as often as `LINE_RESET_PASSES` says (R64, R90). -/
def lineResetTrace (n : Nat) : List Event :=
  [.dir .output] ++ (List.replicate Config.lineResetPasses (lineResetPassTrace n)).flatten

/-! ### The bits a sample will see -/

/-- The bit the environment gives to the `k`-th sample from now of the released line: the `k`-th scripted answer, or
beyond the script a free bit (R8, R14). -/
def State.answer (s : State) (k : Nat) : Bit :=
  match s.env[k]? with
  | some b => b
  | none => Config.environmentBit (s.draws + (k - s.env.length))

/-- The `count` bits of the samples from the `first`-th on. -/
def State.answers (s : State) (first count : Nat) : List Bit := (List.range count).map (fun k => s.answer (first + k))

/-- The bits `count` samples see while the block drives the line: free (R14, U2). -/
def State.drivenSamples (s : State) (count : Nat) : List Bit :=
  (List.range count).map (fun k => Config.sampleWhileDriven (s.draws + k))

/-- The environment after `n` samples of the released line. -/
def State.afterSamples (n : Nat) (s : State) : State :=
  { s with env := s.env.drop n, draws := s.draws + (n - s.env.length) }

/-- The acknowledge bits a transaction begun now will receive (R58). -/
def State.nextAck (s : State) : AckPattern := packLsb 3 (s.answers 0 3)

/-- The data word a read begun now will receive (R60). -/
def State.nextWord (s : State) : Word := packLsb 32 (s.answers 3 32)

/-- The parity bit a read begun now will receive (R61). -/
def State.nextParity (s : State) : Bit := s.answer 35

end Sys2Proof.Machine
end

