-- ==== Sys2Proof/Machine/Ops.lean ====
section
/-! DEFINITION. The shared operations: the four wire primitives (00_scope.md section 6.4), bits and bytes
(40_bitlink.md), the phases of a transfer and its end (41_transport.md rule R91), the line reset (R90), and what the
host and the environment read and hand over. -/

namespace Sys2Proof.Machine

open Sys2Proof

/-! ### Responses -/

/-- An operation ends by handing the host a response other than a Transaction Result (R16). The flags `ack` and
`parity_ok` stay (R20); a word that the response before it held goes, since a value read from the target is not kept
once it has been returned (R42). -/
def State.respond (r : Reply) (s : State) : State := { s with reply := r, result := { s.result with data := none } }

/-- A transfer ends by writing the whole Transaction Result (R16, R20, R147). This is all a failure does: nothing is
saved, no mode changes and control goes nowhere. -/
def State.respondResult (r : TransferResult) (s : State) : State := { s with reply := .transferResult, result := r }

/-- A transfer that has returned its response gives up its scratch registers and its operand: they are what a transfer
holds while it runs (R10, D26), and a value read from the target is not kept after it has been returned (R42). They then
hold no value, as after reset; the zeros that stand for no value are the model's (DESIGN CHOICE, unsafe; log entries 2
and 23). -/
def State.releaseScratch (s : State) : State :=
  { s with
    req := State.reset.req
    ackraw := State.reset.ackraw
    dsr := State.reset.dsr
    parrx := State.reset.parrx
    wdata := State.reset.wdata }

/-- `RESP` as the host sees it: no value until the first operation ends (R16, R25). -/
def State.response (s : State) : Option Response :=
  match s.reply with
  | .noValue => none
  | .nothing => some .nothing
  | .bit b => some (.bit b)
  | .byte v => some (.byte v)
  | .success => some .success
  | .transferResult => some (.result s.result)

/-- The host reads `RESP`, as often as it likes, and changes nothing; before the first operation has ended that is a
host error and faults (R16, R25, U8). -/
def State.readResponse (s : State) : Except Fault Response :=
  match s.response with
  | some r => .ok r
  | none => .error .respHasNoValue

/-! ### Wire primitives, bits and phases

The order of events is the spec's, with its decisions D8 and D11 to D25 (DEDUCED, unsafe; log entry 20). -/

/-- `dir(d)` (00_scope.md section 6.4). -/
def setDir (d : Dir) (s : State) : State := { s with dir := d, trace := s.trace ++ [.dir d] }

/-- `drive(b)` (00_scope.md section 6.4). -/
def drive (b : Bit) (s : State) : State := { s with dout := b, trace := s.trace ++ [.data b] }

/-- `clk(l)` (00_scope.md section 6.4). -/
def clk (l : Bit) (s : State) : State := { s with swclk := l, trace := s.trace ++ [.clk l] }

/-- `PIN()`: the level a sample sees. With `DIR = Input` it is the environment's: the next scripted answer, or a free
bit when the script is at its end. With `DIR = Output` it is unspecified: a free bit that is not tied to `DOUT`
(R14, U2, U5, U14). -/
def pin (s : State) : Bit × State :=
  match s.dir with
  | .input =>
    match s.env with
    | b :: rest => (b, { s with env := rest })
    | [] => (Config.environmentBit s.draws, { s with draws := s.draws + 1 })
  | .output => (Config.sampleWhileDriven s.draws, { s with draws := s.draws + 1 })

/-- `sample()` (00_scope.md section 6.4). -/
def sample (s : State) : Bit × State :=
  let p := pin s
  (p.1, { p.2 with trace := p.2.trace ++ [.sample p.1] })

/-- The level the block puts on the data pin: `DOUT` while `DIR = Output`, nothing while `DIR = Input` (R11, R13). -/
def State.drivenLevel (s : State) : Option Bit :=
  match s.dir with
  | .output => some s.dout
  | .input => none

/-! ### Bits and bytes -/

/-- `WRITE_BIT`: the data level first, then a low-then-high pulse; the direction is not looked at (R81, R163). -/
def writeBit (b : Bit) (s : State) : State := clk true (clk false (drive b s))

/-- `READ_BIT`: a low-then-high pulse, then the sample (R82). -/
def readBit (s : State) : Bit × State := sample (clk true (clk false s))

/-- One `WRITE_BIT` for each bit, in order. -/
def writeBits (bits : List Bit) (s : State) : State :=
  match bits with
  | [] => s
  | b :: rest => writeBits rest (writeBit b s)

/-- `n` times `READ_BIT`; the bits in the order received. -/
def readBits (n : Nat) (s : State) : List Bit × State :=
  match n with
  | 0 => ([], s)
  | n + 1 =>
    let first := readBit s
    let rest := readBits n first.2
    (first.1 :: rest.1, rest.2)

/-- `WRITE_BYTE v`, and the data word of a write: all bits of a value, least significant first (R32, R83). -/
def writeValue {n : Nat} (v : BitVec n) (s : State) : State := writeBits (lsbBits v) s

/-- `READ_BYTE`, the acknowledge bits and the data word of a read: `n` bits, the first received least significant
(R32, R58, R60, R84). -/
def readValue (n : Nat) (s : State) : BitVec n × State :=
  let received := readBits n s
  (packLsb n received.1, received.2)

/-- `n` clock pulses with nothing driven and nothing sampled. -/
def pulses (n : Nat) (s : State) : State :=
  match n with
  | 0 => s
  | n + 1 => pulses n (clk true (clk false s))

/-- `TURN()`: the turnaround (R62). -/
def turn (s : State) : State := pulses Config.trnCycles s

/-! ### The phases of a transfer -/

/-- `PHASE <- p`. -/
def State.enter (p : Phase) (s : State) : State := { s with phase := p }

/-- `REQUEST`: the whole request byte goes out with `DIR = Output` (R91, R98). -/
def requestPhase (s : State) : State := (writeValue s.req (setDir .output s)).enter .trn1

/-- `TRN1`: the line is released and one turnaround passes (R91). -/
def firstTurnPhase (s : State) : State := (turn (setDir .input s)).enter .ack

/-- The phase that follows the acknowledge bits: the two decisions of a transfer (R91, R92). -/
def phaseAfterAck (reads : Bool) (ackraw : AckPattern) : Phase :=
  match ackClass ackraw with
  | .ok => if reads then .dataRd else .trn2
  | .wait | .fault | .protocolError => .idleBit

/-- `ACK`: three bits are read; the class and the direction say where the transfer goes (R58, R59, R91, R92). -/
def ackPhase (s : State) : State :=
  let received := readValue Config.ackBits s
  { received.2 with ackraw := received.1, phase := phaseAfterAck (requestReads s.req) received.1 }

/-- `DATA_RD`: 32 bits are read into `DSR` (R60, R91). -/
def dataReadPhase (s : State) : State :=
  let received := readValue Config.dataBits s
  { received.2 with dsr := received.1, phase := .parRd }

/-- `PAR_RD`: the parity bit is read into `PARRX` (R61, R91). -/
def parityReadPhase (s : State) : State :=
  let received := readBit s
  { received.2 with parrx := received.1, phase := .trn2 }

/-- `TRN2`: one turnaround with `DIR = Input`; then the idle bit of a read or the data of a write (R91). -/
def secondTurnPhase (s : State) : State :=
  (turn s).enter (if requestReads s.req then .idleBit else .dataWr)

/-- `DATA_WR`: the switch to `Output`, then the 32 bits of the operand (R60, R91). -/
def dataWritePhase (s : State) : State :=
  let s1 := { setDir .output s with dsr := s.wdata }
  (writeValue s1.dsr s1).enter .parWr

/-- `PAR_WR`: the parity of the word being written (R61, R91). -/
def parityWritePhase (s : State) : State := (writeBit (par32 s.dsr) s).enter .idleBit

/-- The transfer in `REQ` and `ACKRAW` is a write whose data phase ran, so the block is driving already (R91). -/
def dataPhaseDrove (s : State) : Bool := !requestReads s.req && ackClass s.ackraw == .ok

/-- `IDLEBIT` and the end of the transfer: the switch to `Output` (not after a write's data phase, where R91 has
none), the idle bit, the response (R63, R91, R147); nothing that was read is kept beside it (R42). -/
def idleBitPhase (s : State) : State :=
  let s1 := if dataPhaseDrove s then s else setDir .output s
  let s2 := writeBits (List.replicate Config.idleBits Config.idleValue) s1
  ((s2.enter .idle).respondResult (transferOutcome (requestReads s.req) s.ackraw s.dsr s.parrx)).releaseScratch

/-- The work of the present phase, ending in the next (R18, R91); with no transfer under way, nothing. -/
def phaseStep (s : State) : State :=
  match s.phase with
  | .idle => s
  | .request => requestPhase s
  | .trn1 => firstTurnPhase s
  | .ack => ackPhase s
  | .dataRd => dataReadPhase s
  | .parRd => parityReadPhase s
  | .trn2 => secondTurnPhase s
  | .dataWr => dataWritePhase s
  | .parWr => parityWritePhase s
  | .idleBit => idleBitPhase s

/-- `n` phases. -/
def runPhases (n : Nat) (s : State) : State :=
  match n with
  | 0 => s
  | n + 1 => runPhases n (phaseStep s)

/-- The number of phases of the longest transfer; no path has more (R18). -/
def maxPhases : Nat := 7

/-- The start of a transfer: `REQ <- req`, the operand of a write is kept for its data phase (that of a read is
ignored, R97), `PHASE <- REQUEST` (R91). -/
def startTransfer (req : RequestByte) (wdata : Word) (s : State) : State :=
  { s with req := req, wdata := if requestReads req then s.wdata else wdata, phase := .request }

/-- `TRANSFER(req, wdata)`: one whole transaction, its request sent once (R91, R100). -/
def transfer (req : RequestByte) (wdata : Word) (s : State) : State := runPhases maxPhases (startTransfer req wdata s)

/-- The transfer under way, if there is one, runs to its end: the block never waits for anything (R101). -/
def resume (s : State) : State := runPhases maxPhases s

/-- The environment answers the acknowledge phase with `pattern`, `a0` first: the bits come before any other answer,
and the transfer runs to its end. Outside the acknowledge phase the block does not sample the line, so the pattern
changes nothing (R58, R91, R145). -/
def receiveAck (pattern : AckPattern) (s : State) : State :=
  if s.phase = .ack then resume { s with env := lsbBits pattern ++ s.env } else s

/-! ### Line reset -/

/-- One pass of the line reset: `n` bits of 1, then the all-zero byte (R64, R90). -/
def lineResetPass (n : Nat) (s : State) : State :=
  writeBits (List.replicate Config.lineResetZeroBits false) (writeBits (List.replicate n true) s)

/-- The passes of the line reset. -/
def lineResetPasses (passes n : Nat) (s : State) : State :=
  match passes with
  | 0 => s
  | p + 1 => lineResetPasses p n (lineResetPass n s)

/-- `LINE_RESET` with `n` high cycles in each pass (R64, R90). -/
def lineReset (n : Nat) (s : State) : State :=
  (lineResetPasses Config.lineResetPasses n (setDir .output s)).respond .success

/-! ### The caller's mistakes -/

/-- A bit or byte operation that needs the direction `need`: the block does not check (R163) and goes on to `t`; with
`callerChecks` on, the other direction faults (U1, U2; DESIGN CHOICE, safe; log entry 1). -/
def requireDir (need : Dir) (f : Fault) (s t : State) : Host.Outcome State Fault Refusal :=
  if s.callerChecks && s.dir != need then .fault f else .next t

/-- A request byte handed to `TRANSFER`: the block does not check (R69, R98) and goes on to `t`; with `callerChecks`
on, a byte that is none of the sixteen headers is refused (U3; DESIGN CHOICE, safe; log entry 1). -/
def requireRequest (req : RequestByte) (s t : State) : Host.Outcome State Fault Refusal :=
  if s.callerChecks && !isRequest req then .refused (.malformedRequest req) else .next t

/-! ### What is presented to the block -/

/-- The block takes a command or a request only when no transfer is under way (R36, R86); an acknowledge pattern is
on the line whenever the environment puts it there. -/
def accepts (f : Frame) (s : State) : Bool :=
  match f with
  | .command _ | .request _ _ => s.phase == .idle
  | .ack _ => true

end Sys2Proof.Machine
end

