-- ==== Sys2Proof/Machine/Acks.lean ====
section
/-! DEFINITION. The eight acknowledge patterns as the environment's answer to the block (R58, R59, R68): in the
acknowledge phase of a transfer the block reads the three bits, classifies them and runs the transfer to its end; at any
other time it does not look at the line (R145; DESIGN CHOICE, unsafe; log entry 10). -/

namespace Sys2Proof.Machine

open Sys2Proof

/-- Pattern `0b001`: OK, the data phase follows (R58, R59). -/
def execAckOk (s : State) : Host.Outcome State Fault Refusal := .next (receiveAck 0b001#3 s)

/-- Pattern `0b010`: WAIT (R58, R59). -/
def execAckWait (s : State) : Host.Outcome State Fault Refusal := .next (receiveAck 0b010#3 s)

/-- Pattern `0b100`: FAULT (R58, R59). -/
def execAckFault (s : State) : Host.Outcome State Fault Refusal := .next (receiveAck 0b100#3 s)

/-- Pattern `0b000`: PROTOCOL_ERROR (R59, R68). -/
def execAckInvalid0 (s : State) : Host.Outcome State Fault Refusal := .next (receiveAck 0b000#3 s)

/-- Pattern `0b011`: PROTOCOL_ERROR (R59, R68). -/
def execAckInvalid3 (s : State) : Host.Outcome State Fault Refusal := .next (receiveAck 0b011#3 s)

/-- Pattern `0b101`: PROTOCOL_ERROR (R59, R68). -/
def execAckInvalid5 (s : State) : Host.Outcome State Fault Refusal := .next (receiveAck 0b101#3 s)

/-- Pattern `0b110`: PROTOCOL_ERROR (R59, R68). -/
def execAckInvalid6 (s : State) : Host.Outcome State Fault Refusal := .next (receiveAck 0b110#3 s)

/-- Pattern `0b111`: PROTOCOL_ERROR (R59, R68). -/
def execAckInvalid7 (s : State) : Host.Outcome State Fault Refusal := .next (receiveAck 0b111#3 s)

end Sys2Proof.Machine
end

