-- ==== Sys2Proof/Machine/BitLink.lean ====
section
/-! DEFINITION. The five operations of the Bit-Link (40_bitlink.md). -/

namespace Sys2Proof.Machine

open Sys2Proof

/-- `SET_DIR d` (R80). -/
def execSetDir (d : Dir) (s : State) : Host.Outcome State Fault Refusal :=
  .next ((setDir d s).respond .nothing)

/-- `WRITE_BIT b` (R81). -/
def execWriteBit (b : Bit) (s : State) : Host.Outcome State Fault Refusal :=
  requireDir .output .writeWhileInput s ((writeBit b s).respond .nothing)

/-- `READ_BIT` (R82). -/
def execReadBit (s : State) : Host.Outcome State Fault Refusal :=
  let received := readBit s
  requireDir .input .readWhileOutput s (received.2.respond (.bit received.1))

/-- `WRITE_BYTE v` (R83). -/
def execWriteByte (v : Byte) (s : State) : Host.Outcome State Fault Refusal :=
  requireDir .output .writeWhileInput s ((writeValue v s).respond .nothing)

/-- `READ_BYTE` (R84). -/
def execReadByte (s : State) : Host.Outcome State Fault Refusal :=
  let received := readValue Config.byteBits s
  requireDir .input .readWhileOutput s (received.2.respond (.byte received.1))

end Sys2Proof.Machine
end

