-- ==== Sys2Proof/Machine/Registers.lean ====
section
/-! DEFINITION. The request formatter and the register operations (42_register_access.md). A read has no operand to
send, so the `unused` argument of its `TRANSFER` is written 0; no bit of it reaches anything (R97). -/

namespace Sys2Proof.Machine

open Sys2Proof

/-- `FORMAT_REQUEST port, rnw, addr`: no event, no state but the response (R110). -/
def execFormatRequest (port : Port) (rnw : Access) (addr : Byte) (s : State) : Host.Outcome State Fault Refusal :=
  .next (s.respond (.byte (formatRequest port rnw addr)))

/-- `DP_READ addr` (R111). -/
def execDpRead (addr : Byte) (s : State) : Host.Outcome State Fault Refusal :=
  .next (transfer (formatRequest .dp .read addr) 0 s)

/-- `DP_WRITE addr, wdata` (R112). -/
def execDpWrite (addr : Byte) (wdata : Word) (s : State) : Host.Outcome State Fault Refusal :=
  .next (transfer (formatRequest .dp .write addr) wdata s)

/-- The two transactions of `AP_READ`: the AP read, whose word is dropped, then the DP read of `RDBUFF`, which is not
made when the first failed (R114, D18). -/
def apRead (addr : Byte) (s : State) : State :=
  let s1 := transfer (formatRequest .ap .read addr) 0 s
  match s1.result.ack with
  | .ok => transfer (formatRequest .dp .read Config.dpRdbuff) 0 s1
  | .wait | .fault | .protocolError => s1

/-- `AP_READ addr` (R114). -/
def execApRead (addr : Byte) (s : State) : Host.Outcome State Fault Refusal :=
  .next (apRead addr s)

/-- `AP_WRITE addr, wdata` (R113). -/
def execApWrite (addr : Byte) (wdata : Word) (s : State) : Host.Outcome State Fault Refusal :=
  .next (transfer (formatRequest .ap .write addr) wdata s)

end Sys2Proof.Machine
end

