-- ==== Sys2Proof/Machine/Requests.lean ====
section
/-! DEFINITION. The sixteen request headers of the table of R57, each the transaction it opens (R50, R91): the header
goes out as the table has it, and a header that announces a write takes the word that goes with it (DESIGN CHOICE,
unsafe; log entry 9). -/

namespace Sys2Proof.Machine

open Sys2Proof

/-- Header `0xA5`: DP read of `0x0` (R57, R91). -/
def execReqDpRd0 (s : State) : Host.Outcome State Fault Refusal := .next (transfer 0xA5#8 0 s)

/-- Header `0x8D`: DP read of `0x4` (R57, R91). -/
def execReqDpRd4 (s : State) : Host.Outcome State Fault Refusal := .next (transfer 0x8D#8 0 s)

/-- Header `0x95`: DP read of `0x8` (R57, R91). -/
def execReqDpRd8 (s : State) : Host.Outcome State Fault Refusal := .next (transfer 0x95#8 0 s)

/-- Header `0xBD`: DP read of `0xC` (R57, R91). -/
def execReqDpRdC (s : State) : Host.Outcome State Fault Refusal := .next (transfer 0xBD#8 0 s)

/-- Header `0x81`: DP write of `0x0` (R57, R91). -/
def execReqDpWr0 (wdata : Word) (s : State) : Host.Outcome State Fault Refusal :=
  .next (transfer 0x81#8 wdata s)

/-- Header `0xA9`: DP write of `0x4` (R57, R91). -/
def execReqDpWr4 (wdata : Word) (s : State) : Host.Outcome State Fault Refusal :=
  .next (transfer 0xA9#8 wdata s)

/-- Header `0xB1`: DP write of `0x8` (R57, R91). -/
def execReqDpWr8 (wdata : Word) (s : State) : Host.Outcome State Fault Refusal :=
  .next (transfer 0xB1#8 wdata s)

/-- Header `0x99`: DP write of `0xC` (R57, R91). -/
def execReqDpWrC (wdata : Word) (s : State) : Host.Outcome State Fault Refusal :=
  .next (transfer 0x99#8 wdata s)

/-- Header `0x87`: AP read of `0x0` (R57, R91). -/
def execReqApRd0 (s : State) : Host.Outcome State Fault Refusal := .next (transfer 0x87#8 0 s)

/-- Header `0xAF`: AP read of `0x4` (R57, R91). -/
def execReqApRd4 (s : State) : Host.Outcome State Fault Refusal := .next (transfer 0xAF#8 0 s)

/-- Header `0xB7`: AP read of `0x8` (R57, R91). -/
def execReqApRd8 (s : State) : Host.Outcome State Fault Refusal := .next (transfer 0xB7#8 0 s)

/-- Header `0x9F`: AP read of `0xC` (R57, R91). -/
def execReqApRdC (s : State) : Host.Outcome State Fault Refusal := .next (transfer 0x9F#8 0 s)

/-- Header `0xA3`: AP write of `0x0` (R57, R91). -/
def execReqApWr0 (wdata : Word) (s : State) : Host.Outcome State Fault Refusal :=
  .next (transfer 0xA3#8 wdata s)

/-- Header `0x8B`: AP write of `0x4` (R57, R91). -/
def execReqApWr4 (wdata : Word) (s : State) : Host.Outcome State Fault Refusal :=
  .next (transfer 0x8B#8 wdata s)

/-- Header `0x93`: AP write of `0x8` (R57, R91). -/
def execReqApWr8 (wdata : Word) (s : State) : Host.Outcome State Fault Refusal :=
  .next (transfer 0x93#8 wdata s)

/-- Header `0xBB`: AP write of `0xC` (R57, R91). -/
def execReqApWrC (wdata : Word) (s : State) : Host.Outcome State Fault Refusal :=
  .next (transfer 0xBB#8 wdata s)

end Sys2Proof.Machine
end

