-- ==== Sys2Proof/Machine/Reserved.lean ====
section
/-! DEFINITION. The four reserved command codes: refused, with no wire activity and no change of state (R67, U6; DEDUCED,
safe; log entry 11). -/

namespace Sys2Proof.Machine

open Sys2Proof

/-- Command code `0xC` (R67); the state is not read. -/
def execReservedC (_ : State) : Host.Outcome State Fault Refusal := .refused (.reservedCommand 0xC#4)

/-- Command code `0xD` (R67); the state is not read. -/
def execReservedD (_ : State) : Host.Outcome State Fault Refusal := .refused (.reservedCommand 0xD#4)

/-- Command code `0xE` (R67); the state is not read. -/
def execReservedE (_ : State) : Host.Outcome State Fault Refusal := .refused (.reservedCommand 0xE#4)

/-- Command code `0xF` (R67); the state is not read. -/
def execReservedF (_ : State) : Host.Outcome State Fault Refusal := .refused (.reservedCommand 0xF#4)

end Sys2Proof.Machine
end

