-- ==== Sys2Proof/Machine/Transport.lean ====
section
/-! DEFINITION. The two core operations of the Packet Transport (41_transport.md). -/

namespace Sys2Proof.Machine

open Sys2Proof

/-- `LINE_RESET` (R90). -/
def execLineReset (s : State) : Host.Outcome State Fault Refusal :=
  .next (lineReset Config.lineResetHighCycles s)

/-- `TRANSFER req, wdata` (R91). -/
def execTransfer (req : RequestByte) (wdata : Word) (s : State) : Host.Outcome State Fault Refusal :=
  requireRequest req s (transfer req wdata s)

end Sys2Proof.Machine
end

