-- ==== Sys2Proof/Machine/Dispatch.lean ====
section
/-! DEFINITION. One arm for each row of the opcode table. -/

namespace Sys2Proof.Machine

open Sys2Proof

/-- The effect of one instruction. -/
def exec (i : Instr) (s : State) : Host.Outcome State Fault Refusal :=
  match i with
  | .setDir d => Sys2Proof.Machine.execSetDir d s
  | .writeBit b => Sys2Proof.Machine.execWriteBit b s
  | .readBit => Sys2Proof.Machine.execReadBit s
  | .writeByte v => Sys2Proof.Machine.execWriteByte v s
  | .readByte => Sys2Proof.Machine.execReadByte s
  | .lineReset => Sys2Proof.Machine.execLineReset s
  | .transfer req wdata => Sys2Proof.Machine.execTransfer req wdata s
  | .formatRequest port rnw addr => Sys2Proof.Machine.execFormatRequest port rnw addr s
  | .dpRead addr => Sys2Proof.Machine.execDpRead addr s
  | .dpWrite addr wdata => Sys2Proof.Machine.execDpWrite addr wdata s
  | .apRead addr => Sys2Proof.Machine.execApRead addr s
  | .apWrite addr wdata => Sys2Proof.Machine.execApWrite addr wdata s
  | .reservedC => Sys2Proof.Machine.execReservedC s
  | .reservedD => Sys2Proof.Machine.execReservedD s
  | .reservedE => Sys2Proof.Machine.execReservedE s
  | .reservedF => Sys2Proof.Machine.execReservedF s
  | .reqDpRd0 => Sys2Proof.Machine.execReqDpRd0 s
  | .reqDpRd4 => Sys2Proof.Machine.execReqDpRd4 s
  | .reqDpRd8 => Sys2Proof.Machine.execReqDpRd8 s
  | .reqDpRdC => Sys2Proof.Machine.execReqDpRdC s
  | .reqDpWr0 wdata => Sys2Proof.Machine.execReqDpWr0 wdata s
  | .reqDpWr4 wdata => Sys2Proof.Machine.execReqDpWr4 wdata s
  | .reqDpWr8 wdata => Sys2Proof.Machine.execReqDpWr8 wdata s
  | .reqDpWrC wdata => Sys2Proof.Machine.execReqDpWrC wdata s
  | .reqApRd0 => Sys2Proof.Machine.execReqApRd0 s
  | .reqApRd4 => Sys2Proof.Machine.execReqApRd4 s
  | .reqApRd8 => Sys2Proof.Machine.execReqApRd8 s
  | .reqApRdC => Sys2Proof.Machine.execReqApRdC s
  | .reqApWr0 wdata => Sys2Proof.Machine.execReqApWr0 wdata s
  | .reqApWr4 wdata => Sys2Proof.Machine.execReqApWr4 wdata s
  | .reqApWr8 wdata => Sys2Proof.Machine.execReqApWr8 wdata s
  | .reqApWrC wdata => Sys2Proof.Machine.execReqApWrC wdata s
  | .ackOk => Sys2Proof.Machine.execAckOk s
  | .ackWait => Sys2Proof.Machine.execAckWait s
  | .ackFault => Sys2Proof.Machine.execAckFault s
  | .ackInvalid0 => Sys2Proof.Machine.execAckInvalid0 s
  | .ackInvalid3 => Sys2Proof.Machine.execAckInvalid3 s
  | .ackInvalid5 => Sys2Proof.Machine.execAckInvalid5 s
  | .ackInvalid6 => Sys2Proof.Machine.execAckInvalid6 s
  | .ackInvalid7 => Sys2Proof.Machine.execAckInvalid7 s

end Sys2Proof.Machine
end

