-- ==== Sys2Proof/Machine/Step.lean ====
section
/-! DEFINITION. One step: the next word presented to the block is taken, decoded and run. The block has no program
counter and no instruction memory (R18, R41): what it runs next is the head of `State.inbox`, the words the host and
the environment present, in the order they present them (R8, R39; DESIGN CHOICE, unsafe; log entry 7). -/

namespace Sys2Proof.Machine

open Sys2Proof

/-- One step. With nothing presented the block is quiescent (R169), unless a transfer is under way, which runs to its
end (R101). A word that is no instruction is refused by name (R69, U3), a command or request in the middle of a
transfer is refused (R86, U7; DEDUCED, safe; log entry 12), and anything else is taken from the inbox and run. -/
def step (s : State) : Host.Outcome State Fault Refusal :=
  match s.inbox with
  | [] => .next (resume s)
  | f :: rest =>
    match decode f with
    | .error (.malformedRequest header) => .refused (.malformedRequest header)
    | .ok i => if accepts f s then exec i { s with inbox := rest } else .refused .operationInFlight

/-- `s` with a word of the opcode table presented next. A command or a request needs an idle block; a pattern on the
line is an acknowledge only where the block reads one, so for a pattern the transfer in `REQ` stands in its acknowledge
phase with the line released (log entry 7). A word that fits no format leaves `s` as it is. -/
def State.withFetchWord (s : State) (nbits w : Nat) : State :=
  match tableFrame nbits w with
  | none => s
  | some (.command c) => { s with phase := .idle, inbox := .command c :: s.inbox }
  | some (.request h d) => { s with phase := .idle, inbox := .request h d :: s.inbox }
  | some (.ack p) => { s with phase := .ack, dir := .input, inbox := .ack p :: s.inbox }

end Sys2Proof.Machine
end

