-- ==== Sys2Proof/Machine/Closed.lean ====
section
/-! DEFINITION. Two other ways to say what a transfer does, for claims to compare the machine with: the sequence of R91
written out line by line, and the whole final state in terms of the bits the environment will answer. The machine does
not run on these. -/

namespace Sys2Proof.Machine

open Sys2Proof

/-! ### R91 as it is written

Each of its ends returns the response and gives up the scratch registers (R10, R42). -/

/-- The common start of R91: the request, the first turnaround and the acknowledge bits. The first line also keeps the
operand of a write, as `startTransfer` does. -/
def writtenHeader (req : RequestByte) (wdata : Word) (s : State) : State :=
  let s := { s with req := req, wdata := if req.getLsbD 2 then s.wdata else wdata }
  let s := s.enter .request
  let s := setDir .output s
  let s := writeBits (lsbBits s.req) s
  let s := s.enter .trn1
  let s := setDir .input s
  let s := clk true (clk false s)
  let s := s.enter .ack
  let (a0, s) := readBit s
  let (a1, s) := readBit s
  let (a2, s) := readBit s
  { s with ackraw := packLsb 3 [a0, a1, a2] }

/-- The end of R91 on the non-OK path. -/
def writtenNonOkEnd (cls : AckClass) (s : State) : State :=
  let s := s.enter .idleBit
  let s := setDir .output s
  let s := writeBit false s
  let s := s.enter .idle
  (s.respondResult { ack := cls, data := none, parityOk := true }).releaseScratch

/-- The end of R91 on the read path. -/
def writtenReadEnd (s : State) : State :=
  let s := s.enter .dataRd
  let (bits, s) := readBits 32 s
  let s := { s with dsr := packLsb 32 bits }
  let s := s.enter .parRd
  let (p, s) := readBit s
  let s := { s with parrx := p }
  let ok := s.parrx == par32 s.dsr
  let s := s.enter .trn2
  let s := clk true (clk false s)
  let s := s.enter .idleBit
  let s := setDir .output s
  let s := writeBit false s
  let s := s.enter .idle
  if ok then (s.respondResult { ack := .ok, data := some s.dsr, parityOk := true }).releaseScratch
  else (s.respondResult { ack := .protocolError, data := none, parityOk := false }).releaseScratch

/-- The end of R91 on the write path. -/
def writtenWriteEnd (wdata : Word) (s : State) : State :=
  let s := s.enter .trn2
  let s := clk true (clk false s)
  let s := s.enter .dataWr
  let s := setDir .output s
  let s := { s with dsr := wdata }
  let s := writeBits (lsbBits s.dsr) s
  let s := s.enter .parWr
  let s := writeBit (par32 s.dsr) s
  let s := s.enter .idleBit
  let s := writeBit false s
  let s := s.enter .idle
  (s.respondResult { ack := .ok, data := none, parityOk := true }).releaseScratch

/-- `TRANSFER(req, wdata)` as R91 writes it: straight line, with its two decisions (R92). -/
def writtenTransfer (req : RequestByte) (wdata : Word) (s : State) : State :=
  let s := writtenHeader req wdata s
  match ackClass s.ackraw with
  | .ok => if req.getLsbD 2 then writtenReadEnd s else writtenWriteEnd wdata s
  | .wait => writtenNonOkEnd .wait s
  | .fault => writtenNonOkEnd .fault s
  | .protocolError => writtenNonOkEnd .protocolError s

/-! ### The final state of a transaction

The scratch registers hold no value any more (R10, R42); the zeros that stand for no value are the model's choice (DESIGN
CHOICE, unsafe; log entries 2 and 23). -/

/-- The state after a transaction whose acknowledge is not OK: three samples, 13 cycles, the class (R65, R93). -/
def afterNonOk (req : RequestByte) (s : State) : State :=
  { s.afterSamples 3 with
    dir := .output
    swclk := true
    dout := false
    reply := .transferResult
    result := { ack := ackClass s.nextAck, data := none, parityOk := true }
    phase := .idle
    req := 0
    ackraw := 0
    dsr := 0
    parrx := false
    wdata := 0
    trace := s.trace ++ nonOkTrace req s.nextAck }

/-- The state after a read whose acknowledge is OK: 36 samples, 47 cycles, the word if its parity matches (R65, R95). -/
def afterRead (req : RequestByte) (s : State) : State :=
  { s.afterSamples 36 with
    dir := .output
    swclk := true
    dout := false
    reply := .transferResult
    result :=
      if s.nextParity = par32 s.nextWord then { ack := .ok, data := some s.nextWord, parityOk := true }
      else { ack := .protocolError, data := none, parityOk := false }
    phase := .idle
    req := 0
    ackraw := 0
    dsr := 0
    parrx := false
    wdata := 0
    trace := s.trace ++ readTrace req s.nextAck s.nextWord s.nextParity }

/-- The state after a write whose acknowledge is OK: three samples, 47 cycles (R65, R96). -/
def afterWrite (req : RequestByte) (wdata : Word) (s : State) : State :=
  { s.afterSamples 3 with
    dir := .output
    swclk := true
    dout := false
    reply := .transferResult
    result := { ack := .ok, data := none, parityOk := true }
    phase := .idle
    req := 0
    ackraw := 0
    dsr := 0
    parrx := false
    wdata := 0
    trace := s.trace ++ writeTrace req s.nextAck wdata }

/-- The state after a transaction, whichever of the three shapes it takes (R65, R91). -/
def afterTransfer (req : RequestByte) (wdata : Word) (s : State) : State :=
  if ackClass s.nextAck = .ok then
    if req.getLsbD 2 then afterRead req s else afterWrite req wdata s
  else afterNonOk req s

/-- The state after the transfer in `REQ`, standing in its acknowledge phase, has received `pattern` (R58, R59, R68,
R91): what the environment answers after the pattern is the data and the parity of a read. -/
def afterPattern (pattern : AckPattern) (s : State) : State :=
  if ackClass pattern = .ok then
    if s.req.getLsbD 2 then
      { s.afterSamples 33 with
        dir := .output
        swclk := true
        dout := false
        reply := .transferResult
        result :=
          if s.answer 32 = par32 (packLsb 32 (s.answers 0 32)) then
            { ack := .ok, data := some (packLsb 32 (s.answers 0 32)), parityOk := true }
          else { ack := .protocolError, data := none, parityOk := false }
        phase := .idle
        req := 0
        ackraw := 0
        dsr := 0
        parrx := false
        wdata := 0
        trace :=
          s.trace ++ (readCycles (lsbBits pattern) ++ readCycles (s.answers 0 32) ++ readCycle (s.answer 32) ++
            turnCycle ++ [.dir .output] ++ writeCycle false) }
    else
      { s with
        dir := .output
        swclk := true
        dout := false
        reply := .transferResult
        result := { ack := .ok, data := none, parityOk := true }
        phase := .idle
        req := 0
        ackraw := 0
        dsr := 0
        parrx := false
        wdata := 0
        trace :=
          s.trace ++ (readCycles (lsbBits pattern) ++ turnCycle ++ [.dir .output] ++ writeCycles (lsbBits s.wdata) ++
            writeCycle (par32 s.wdata) ++ writeCycle false) }
  else
    { s with
      dir := .output
      swclk := true
      dout := false
      reply := .transferResult
      result := { ack := ackClass pattern, data := none, parityOk := true }
      phase := .idle
      req := 0
      ackraw := 0
      dsr := 0
      parrx := false
      wdata := 0
      trace := s.trace ++ (readCycles (lsbBits pattern) ++ [.dir .output] ++ writeCycle false) }

end Sys2Proof.Machine
end

