-- ==== Sys2Proof/Safety.lean ====
section
/-! DEFINITION. What counts as a safe run, in the terms claims use: the caller's contract (70_reset_and_hazards.md
section 3), the state between operations (R17, R169) and what a trace must satisfy (00_scope.md section 6.3, R163). -/

namespace Sys2Proof.Safety

open Sys2Proof Sys2Proof.Machine

/-! ### The caller's contract -/

/-- The caller respects the hazards of R163 and hands `TRANSFER` a request of the formatter (R69): a bit or byte is
written with `DIR = Output` and read with `DIR = Input`. Every other instruction asks nothing of its caller (R150). -/
def callerOk (i : Instr) (s : State) : Bool :=
  match i with
  | .writeBit _ | .writeByte _ => s.dir == .output
  | .readBit | .readByte => s.dir == .input
  | .transfer req _ => isRequest req
  | .setDir _ | .lineReset | .formatRequest _ _ _ => true
  | .dpRead _ | .dpWrite _ _ | .apRead _ | .apWrite _ _ => true
  | .reservedC | .reservedD | .reservedE | .reservedF => true
  | .reqDpRd0 | .reqDpRd4 | .reqDpRd8 | .reqDpRdC | .reqDpWr0 _ | .reqDpWr4 _ | .reqDpWr8 _ | .reqDpWrC _ => true
  | .reqApRd0 | .reqApRd4 | .reqApRd8 | .reqApRdC | .reqApWr0 _ | .reqApWr4 _ | .reqApWr8 _ | .reqApWrC _ => true
  | .ackOk | .ackWait | .ackFault => true
  | .ackInvalid0 | .ackInvalid3 | .ackInvalid5 | .ackInvalid6 | .ackInvalid7 => true

/-- The four command codes that are no operation (R67). -/
def isReserved (i : Instr) : Bool :=
  match i with
  | .reservedC | .reservedD | .reservedE | .reservedF => true
  | .setDir _ | .writeBit _ | .readBit | .writeByte _ | .readByte | .lineReset | .transfer _ _ => false
  | .formatRequest _ _ _ | .dpRead _ | .dpWrite _ _ | .apRead _ | .apWrite _ _ => false
  | .reqDpRd0 | .reqDpRd4 | .reqDpRd8 | .reqDpRdC | .reqDpWr0 _ | .reqDpWr4 _ | .reqDpWr8 _ | .reqDpWrC _ => false
  | .reqApRd0 | .reqApRd4 | .reqApRd8 | .reqApRdC | .reqApWr0 _ | .reqApWr4 _ | .reqApWr8 _ | .reqApWrC _ => false
  | .ackOk | .ackWait | .ackFault => false
  | .ackInvalid0 | .ackInvalid3 | .ackInvalid5 | .ackInvalid6 | .ackInvalid7 => false

/-- The instruction runs a transaction and so ends by writing a Transaction Result (R20). -/
def isTransaction (i : Instr) : Bool :=
  match i with
  | .transfer _ _ | .dpRead _ | .dpWrite _ _ | .apRead _ | .apWrite _ _ => true
  | .reqDpRd0 | .reqDpRd4 | .reqDpRd8 | .reqDpRdC | .reqDpWr0 _ | .reqDpWr4 _ | .reqDpWr8 _ | .reqDpWrC _ => true
  | .reqApRd0 | .reqApRd4 | .reqApRd8 | .reqApRdC | .reqApWr0 _ | .reqApWr4 _ | .reqApWr8 _ | .reqApWrC _ => true
  | .ackOk | .ackWait | .ackFault => true
  | .ackInvalid0 | .ackInvalid3 | .ackInvalid5 | .ackInvalid6 | .ackInvalid7 => true
  | .setDir _ | .writeBit _ | .readBit | .writeByte _ | .readByte | .lineReset | .formatRequest _ _ _ => false
  | .reservedC | .reservedD | .reservedE | .reservedF => false

/-- The history a claim about meaningful answers keeps: a line reset has been done and no transaction has failed since
(R149, R161, R162, U9). `before` is the history so far, `t` the state after `i`. -/
def lineResetSinceFailure (before : Bool) (i : Instr) (t : State) : Bool :=
  if i = .lineReset then true
  else if isTransaction i then before && t.result.ack == .ok
  else before

/-! ### The state between operations -/

/-- R17: no result is OK with a parity failure, and none has data without being OK. -/
def resultConsistent (r : TransferResult) : Bool :=
  match r.ack with
  | .ok => r.parityOk
  | .wait | .fault | .protocolError => r.data == none

/-- The scratch registers and the operand of a transfer hold no value, in the form it has after reset (R10, R25; log
entries 2, 4 and 23). -/
def scratchReleased (s : State) : Prop :=
  s.req = State.reset.req ∧ s.ackraw = State.reset.ackraw ∧ s.dsr = State.reset.dsr ∧ s.parrx = State.reset.parrx ∧
    s.wdata = State.reset.wdata

/-- The state between operations: no transfer is under way, the clock rests at 1, the last result obeys R17, and nothing
that was read is held but what `RESP` returns (R12, R17, R42, R169). -/
structure Quiescent (s : State) : Prop where
  phase_idle : s.phase = .idle
  clock_high : s.swclk = true
  result_consistent : resultConsistent s.result = true
  scratch_released : scratchReleased s
  word_returned : s.reply = .transferResult ∨ s.result.data = none

/-! ### Traces -/

/-- What the three outputs of the block hold (D29). -/
structure Pins where
  dir : Dir
  swclk : Bit
  dout : Bit
deriving DecidableEq, Repr

/-- The outputs a state holds. -/
def pinsOf (s : State) : Pins := { dir := s.dir, swclk := s.swclk, dout := s.dout }

/-- The outputs after an event (00_scope.md section 6.4). -/
def Pins.after (p : Pins) (e : Event) : Pins :=
  match e with
  | .dir d => { p with dir := d }
  | .data b => { p with dout := b }
  | .clk l => { p with swclk := l }
  | .sample _ => p

/-- The outputs after a trace. -/
def replay (p : Pins) (tr : List Event) : Pins := tr.foldl Pins.after p

/-- The trace explains the outputs: replayed from reset it gives what the block drives now. -/
def TraceExplainsPins (s : State) : Prop := replay (pinsOf State.reset) s.trace = pinsOf s

/-- Every clock event belongs to a whole pulse: an `E_CLK(0)` with its `E_CLK(1)` right after it (00_scope.md
section 6.3, R12). -/
def wholePulses (tr : List Event) : Bool :=
  match tr with
  | [] => true
  | .clk false :: .clk true :: rest => wholePulses rest
  | .clk _ :: _ => false
  | .dir _ :: rest => wholePulses rest
  | .data _ :: rest => wholePulses rest
  | .sample _ :: rest => wholePulses rest

/-- From direction `d` on, the trace drives data only while the direction is Output and samples only while it is Input
(R11, R163). -/
def wellDriven (d : Dir) (tr : List Event) : Bool :=
  match tr with
  | [] => true
  | .dir d' :: rest => wellDriven d' rest
  | .data _ :: rest => d == .output && wellDriven d rest
  | .sample _ :: rest => d == .input && wellDriven d rest
  | .clk _ :: rest => wellDriven d rest

/-- A state whose whole history obeyed R163, with the outputs its trace explains. -/
structure WellDrivenHistory (s : State) : Prop where
  explained : TraceExplainsPins s
  driven : wellDriven State.reset.dir s.trace = true

/-! ### Runs -/

/-- The first `n` steps from `s` neither fault nor are refused. -/
def RunsSafely (n : Nat) (s : State) : Prop := ∃ t, Sys2Proof.core.run n s = .next t

end Sys2Proof.Safety
end

