-- ==== Sys2Proof/Certificates/Slice0/Obligations.lean ====
section
/-! DEFINITION. The statements about the model. Each docstring names the rule of the spec it formalises; where it rests
on a decision of the spec or of this model it names that. -/

namespace Sys2Proof.Claims

open Sys2Proof Sys2Proof.Machine Sys2Proof.Safety

/-- The block does not look at the direction, or the direction is the one the operation needs (R163, log entry 1). -/
def DirectionAccepted (need : Dir) (s : State) : Prop := s.callerChecks = false ∨ s.dir = need

/-- The block does not look at the request byte, or the byte is one of the sixteen (R69, log entry 1). -/
def RequestAccepted (req : RequestByte) (s : State) : Prop := s.callerChecks = false ∨ isRequest req = true

/-- The request byte a register operation sends for an address, from the four that R111, R112, R113 and R57 list. -/
def requestFor (at0 at4 at8 atC : Byte) (addr : Byte) : Byte :=
  match addr.getLsbD 3, addr.getLsbD 2 with
  | false, false => at0
  | false, true => at4
  | true, false => at8
  | true, true => atC

/-- Request bytes `0xA5`, `0x8D`, `0x95`, `0xBD` (R111). -/
def dpReadRequest (addr : Byte) : Byte := requestFor 0xA5#8 0x8D#8 0x95#8 0xBD#8 addr

/-- Request bytes `0x81`, `0xA9`, `0xB1`, `0x99` (R112). -/
def dpWriteRequest (addr : Byte) : Byte := requestFor 0x81#8 0xA9#8 0xB1#8 0x99#8 addr

/-- Request bytes `0x87`, `0xAF`, `0xB7`, `0x9F` (R57). -/
def apReadRequest (addr : Byte) : Byte := requestFor 0x87#8 0xAF#8 0xB7#8 0x9F#8 addr

/-- Request bytes `0xA3`, `0x8B`, `0x93`, `0xBB` (R113). -/
def apWriteRequest (addr : Byte) : Byte := requestFor 0xA3#8 0x8B#8 0x93#8 0xBB#8 addr

/-- The eight request rows that are reads, with their headers (R57). -/
def readRows : List (Instr × Byte) :=
  [(.reqDpRd0, 0xA5#8), (.reqDpRd4, 0x8D#8), (.reqDpRd8, 0x95#8), (.reqDpRdC, 0xBD#8),
   (.reqApRd0, 0x87#8), (.reqApRd4, 0xAF#8), (.reqApRd8, 0xB7#8), (.reqApRdC, 0x9F#8)]

/-- The request rows that are writes of `w`, with their headers (R57). -/
def writeRows (w : Word) : List (Instr × Byte) :=
  [(.reqDpWr0 w, 0x81#8), (.reqDpWr4 w, 0xA9#8), (.reqDpWr8 w, 0xB1#8), (.reqDpWrC w, 0x99#8),
   (.reqApWr0 w, 0xA3#8), (.reqApWr4 w, 0x8B#8), (.reqApWr8 w, 0x93#8), (.reqApWrC w, 0xBB#8)]

/-- The eight acknowledge rows with their patterns (R58, R68). -/
def ackRows : List (Instr × AckPattern) :=
  [(.ackOk, 0b001#3), (.ackWait, 0b010#3), (.ackFault, 0b100#3), (.ackInvalid0, 0b000#3),
   (.ackInvalid3, 0b011#3), (.ackInvalid5, 0b101#3), (.ackInvalid6, 0b110#3), (.ackInvalid7, 0b111#3)]

/-- The instruction is an acknowledge row. -/
abbrev isAckRow (i : Instr) : Prop := i ∈ ackRows.map Prod.fst

/-- The arrows of the diagram of R18 out of a phase; `IDLE` leads to `REQUEST` only when a transfer begins. -/
def phaseArrows (p : Phase) (cls : AckClass) (reads : Bool) : Phase :=
  match p with
  | .idle => .idle
  | .request => .trn1
  | .trn1 => .ack
  | .ack => if cls = .ok then (if reads then .dataRd else .trn2) else .idleBit
  | .dataRd => .parRd
  | .parRd => .trn2
  | .trn2 => if reads then .idleBit else .dataWr
  | .dataWr => .parWr
  | .parWr => .idleBit
  | .idleBit => .idle

end Sys2Proof.Claims

open Sys2Proof Sys2Proof.Machine Sys2Proof.Safety Sys2Proof.Claims

/-! ### Encoding -/

/-- Command words of the programs of 95_test_vectors.md part 3 and three words of the other two formats. -/
def Obligations.WrittenWordsDecode : Prop :=
  decode (.command 0x50000000000#44) = .ok .lineReset ∧
  decode (.command 0x80000000000#44) = .ok (.dpRead 0x0#8) ∧
  decode (.command 0xB0C12345678#44) = .ok (.apWrite 0xC#8 0x12345678#32) ∧
  decode (.command 0xA0C00000000#44) = .ok (.apRead 0xC#8) ∧
  decode (.command 0x90450000000#44) = .ok (.dpWrite 0x4#8 0x50000000#32) ∧
  decode (.command 0x00100000000#44) = .ok (.setDir .output) ∧
  decode (.command 0x3A500000000#44) = .ok (.writeByte 0xA5#8) ∧
  decode (.request 0xBD#8 0) = .ok .reqDpRdC ∧
  decode (.request 0x8B#8 0x08000000#32) = .ok (.reqApWr4 0x08000000#32) ∧
  decode (.ack 0b100#3) = .ok .ackFault

/-- Decoding the word of any instruction that a word can carry gives the instruction back (R57, R58, R66, R67, R68). -/
def Obligations.DecodeOfEncode : Prop :=
  ∀ i : Instr, i.wellFormed = true → decode (encode i) = .ok i

/-- "Unused operand bits are ignored" (R66), for each of the sixteen codes: two command words that agree in the code and
in the fields the code's row reads decode alike. -/
def Obligations.UnusedCommandBitsIgnored : Prop :=
  ∀ (a a' : Byte) (w w' : Word),
    (∀ op ∈ [0x0#4, 0x1#4], a.getLsbD 0 = a'.getLsbD 0 →
      decode (.command (commandWord op a w)) = decode (.command (commandWord op a' w'))) ∧
    (∀ op ∈ [0x2#4, 0x4#4, 0x5#4, 0xC#4, 0xD#4, 0xE#4, 0xF#4],
      decode (.command (commandWord op a w)) = decode (.command (commandWord op a' w'))) ∧
    (∀ op ∈ [0x3#4, 0x8#4, 0xA#4],
      decode (.command (commandWord op a w)) = decode (.command (commandWord op a w'))) ∧
    (a.extractLsb' 0 4 = a'.extractLsb' 0 4 →
      decode (.command (commandWord 0x7#4 a w)) = decode (.command (commandWord 0x7#4 a' w')))

/-- Which instruction and which operands the twelve operation codes name, for every value of every field (R66, decision
D21 of the spec). -/
def Obligations.CommandCodesNameOperations : Prop :=
  ∀ (a : Byte) (w : Word),
    decode (.command (commandWord 0x0#4 a w)) = .ok (.setDir (if a.getLsbD 0 then .output else .input)) ∧
    decode (.command (commandWord 0x1#4 a w)) = .ok (.writeBit (a.getLsbD 0)) ∧
    decode (.command (commandWord 0x2#4 a w)) = .ok .readBit ∧
    decode (.command (commandWord 0x3#4 a w)) = .ok (.writeByte a) ∧
    decode (.command (commandWord 0x4#4 a w)) = .ok .readByte ∧
    decode (.command (commandWord 0x5#4 a w)) = .ok .lineReset ∧
    decode (.command (commandWord 0x6#4 a w)) = .ok (.transfer a w) ∧
    decode (.command (commandWord 0x7#4 a w)) =
      .ok (.formatRequest (if a.getLsbD 0 then .ap else .dp) (if a.getLsbD 1 then .read else .write) (a &&& 0x0C#8)) ∧
    decode (.command (commandWord 0x8#4 a w)) = .ok (.dpRead a) ∧
    decode (.command (commandWord 0x9#4 a w)) = .ok (.dpWrite a w) ∧
    decode (.command (commandWord 0xA#4 a w)) = .ok (.apRead a) ∧
    decode (.command (commandWord 0xB#4 a w)) = .ok (.apWrite a w)

/-- The sixteen headers the formatter makes are the sixteen bytes the request port takes, each with its own row, and
every other byte is rejected by name (R57, R69). -/
def Obligations.FormatterMakesTheRequestRows : Prop :=
  (∀ b : Byte, isRequest b = true ↔ ∃ port rnw addr, b = formatRequest port rnw addr) ∧
  (∀ (b : Byte) (w : Word), isRequest b = false → decode (.request b w) = .error (.malformedRequest b)) ∧
  (∀ (r : Instr × Byte) (w : Word), r ∈ readRows ++ writeRows w → decode (.request r.2 w) = .ok r.1)

/-! ### The formatter and the parities -/

/-- R110: the response becomes the byte `{1, 0, p, a3, a2, rnw, port, 1}`, the address bits other than 3 and 2 do not
matter, and the command word of code `0x7` carries these operands. With the response before it goes the word of an
earlier Transaction Result (R16 and R42, log entry 16), and every other field is as before. -/
def Obligations.FormatRequestBuildsTheByte : Prop :=
  (∀ (port : Port) (rnw : Access) (addr : Byte) (s : State),
    ∃ b : Byte,
      exec (.formatRequest port rnw addr) s =
        .next { s with reply := .byte b, result := { s.result with data := none } } ∧
      b.getLsbD 0 = true ∧
      b.getLsbD 1 = decide (port = .ap) ∧
      b.getLsbD 2 = decide (rnw = .read) ∧
      b.getLsbD 3 = addr.getLsbD 2 ∧
      b.getLsbD 4 = addr.getLsbD 3 ∧
      b.getLsbD 5 = (decide (port = .ap) ^^ decide (rnw = .read) ^^ addr.getLsbD 2 ^^ addr.getLsbD 3) ∧
      b.getLsbD 6 = false ∧
      b.getLsbD 7 = true ∧
      b &&& 0xC1#8 = 0x81#8 ∧
      exec (.formatRequest port rnw (addr &&& 0x0C#8)) s =
        .next { s with reply := .byte b, result := { s.result with data := none } }) ∧
  (∀ (a : Byte) (w : Word),
    decode (.command (commandWord 0x7#4 a w)) =
      .ok (.formatRequest (if a.getLsbD 0 then .ap else .dp) (if a.getLsbD 1 then .read else .write) (a &&& 0x0C#8)))

/-- The laws of `PAR32` that R61 lists. -/
def Obligations.DataParityLaws : Prop :=
  par32 0x00000000#32 = false ∧ par32 0xFFFFFFFF#32 = false ∧
  (∀ v w : Word, par32 (v ^^^ w) = (par32 v ^^ par32 w)) ∧
  (∀ (v : Word) (k : Nat), k < 32 → par32 (v ^^^ (1#32 <<< k)) = !par32 v) ∧
  (∀ v : Word, (par32 v :: lsbBits v).count true % 2 = 0)

/-- `ACK_CLASS` (R59): the three codes, and PROTOCOL_ERROR for each of the five other patterns of R68; the 2-bit codes
and the error names of R140, R115. -/
def Obligations.AckClassification : Prop :=
  ackClass 0b001#3 = .ok ∧ ackClass 0b010#3 = .wait ∧ ackClass 0b100#3 = .fault ∧
  (∀ x : AckPattern, x ∉ [0b001#3, 0b010#3, 0b100#3] → ackClass x = .protocolError) ∧
  AckClass.ok.code = 0 ∧ AckClass.wait.code = 1 ∧ AckClass.fault.code = 2 ∧ AckClass.protocolError.code = 3 ∧
  AckClass.ok.error = none ∧ AckClass.wait.error = some .ackWait ∧ AckClass.fault.error = some .ackFault ∧
  AckClass.protocolError.error = some .ackProtocolError

/-! ### Bit-Link

An operation that is no transaction replaces the response; in the states below that is `reply`, with the word of the
result before it gone (R16 and R42; log entry 16). -/

/-- R80: `SET_DIR d` sets `DIR`, appends its event even when `DIR` is `d` already (D23), and changes nothing else but
the response. After `SET_DIR Output` the pin carries the present `DOUT`, which was kept meanwhile; after `SET_DIR Input`
the block drives nothing (R11, R13). -/
def Obligations.SetDirSwitches : Prop :=
  (∀ (d : Dir) (s : State),
    exec (.setDir d) s =
      .next { s with
        dir := d
        trace := s.trace ++ [.dir d]
        reply := .nothing
        result := { s.result with data := none } }) ∧
  (∀ s : State, ∃ t, exec (.setDir .output) s = .next t ∧ t.drivenLevel = some s.dout) ∧
  (∀ s : State, ∃ t, exec (.setDir .input) s = .next t ∧ t.drivenLevel = none)

/-- R81: data first, then the pulse; nothing else changes but the response. With `DIR = Input` this is the behaviour
R81 gives the block, which does not check (log entry 1). -/
def Obligations.WriteBitIsOneCycle : Prop :=
  ∀ (b : Bit) (s : State), DirectionAccepted .output s →
    exec (.writeBit b) s =
      .next { s with
        dout := b
        swclk := true
        trace := s.trace ++ [.data b, .clk false, .clk true]
        reply := .nothing
        result := { s.result with data := none } }

/-- R83: eight write cycles, `v[0]` first, and `DOUT` ends as `v[7]`; nothing else changes but the response, with which
the word of an earlier Transaction Result goes (R16 and R42, log entry 16). With `DIR = Input` this is the behaviour of
R81 and D23 for each of the eight bits, as the block does not check (log entry 1). -/
def Obligations.WriteByteIsEightCycles : Prop :=
  (∀ (v : Byte) (s : State), DirectionAccepted .output s →
    exec (.writeByte v) s =
      .next { s with
        dout := v.getLsbD 7
        swclk := true
        trace :=
          s.trace ++ writeCycle (v.getLsbD 0) ++ writeCycle (v.getLsbD 1) ++ writeCycle (v.getLsbD 2) ++
            writeCycle (v.getLsbD 3) ++ writeCycle (v.getLsbD 4) ++ writeCycle (v.getLsbD 5) ++
            writeCycle (v.getLsbD 6) ++ writeCycle (v.getLsbD 7)
        reply := .nothing
        result := { s.result with data := none } }) ∧
  (∀ (v : Byte) (w : Word), decode (.command (commandWord 0x3#4 v w)) = .ok (.writeByte v))

/-- R82 with the line released: the pulse, then the sample, which is the environment's next bit (R14); `DOUT` and
everything else the operation does not name are as before. -/
def Obligations.ReadBitSamplesTheLine : Prop :=
  ∀ s : State, s.dir = .input →
    exec .readBit s =
      .next { s.afterSamples 1 with
        swclk := true
        trace := s.trace ++ [.clk false, .clk true, .sample (s.answer 0)]
        reply := .bit (s.answer 0)
        result := { s.result with data := none } }

/-- R84: eight read cycles; the first bit received is `v[0]`. With the line released the bits are the environment's next
eight answers, in the model's form: a script, then free values of a counter (R14, log entry 5). The response replaces
the one before it, with which the word of an earlier Transaction Result goes (R16 and R42, log entry 16). -/
def Obligations.ReadByteIsEightCycles : Prop :=
  (∀ s : State, s.dir = .input →
    ∃ v : Byte,
      (∀ k < 8, v.getLsbD k = s.answer k) ∧
      exec .readByte s =
        .next { s.afterSamples 8 with
          swclk := true
          trace :=
            s.trace ++ readCycle (v.getLsbD 0) ++ readCycle (v.getLsbD 1) ++ readCycle (v.getLsbD 2) ++
              readCycle (v.getLsbD 3) ++ readCycle (v.getLsbD 4) ++ readCycle (v.getLsbD 5) ++
              readCycle (v.getLsbD 6) ++ readCycle (v.getLsbD 7)
          reply := .byte v
          result := { s.result with data := none } }) ∧
  (∀ (a : Byte) (w : Word), decode (.command (commandWord 0x4#4 a w)) = .ok .readByte)

/-- R82 and U2 with the line driven by the block, which does not check (log entry 1): the operations run and every bit
they return is free, whatever `DOUT` is; the environment gives none of them. The
form of the free bits is the model's choice (log entry 5). -/
def Obligations.ReadWhileDrivingIsUnspecified : Prop :=
  ∀ s : State, s.dir = .output → s.callerChecks = false →
    exec .readBit s =
      .next { s with
        swclk := true
        draws := s.draws + 1
        trace := s.trace ++ readCycle (Config.sampleWhileDriven s.draws)
        reply := .bit (Config.sampleWhileDriven s.draws)
        result := { s.result with data := none } } ∧
    exec .readByte s =
      .next { s with
        swclk := true
        draws := s.draws + 8
        trace := s.trace ++ readCycles (s.drivenSamples 8)
        reply := .byte (packLsb 8 (s.drivenSamples 8))
        result := { s.result with data := none } }

/-- The events of the five Bit-Link operations are 1, 3, 3, 24 and 24 in number (R85), whatever the direction. -/
def Obligations.BitLinkEventCounts : Prop :=
  ∀ (s : State), s.callerChecks = false →
    (∀ d, ∃ t ev, exec (.setDir d) s = .next t ∧ t.trace = s.trace ++ ev ∧ ev.length = 1) ∧
    (∀ b, ∃ t ev, exec (.writeBit b) s = .next t ∧ t.trace = s.trace ++ ev ∧ ev.length = 3) ∧
    (∃ t ev, exec .readBit s = .next t ∧ t.trace = s.trace ++ ev ∧ ev.length = 3) ∧
    (∀ v, ∃ t ev, exec (.writeByte v) s = .next t ∧ t.trace = s.trace ++ ev ∧ ev.length = 24) ∧
    (∃ t ev, exec .readByte s = .next t ∧ t.trace = s.trace ++ ev ∧ ev.length = 24)

/-! ### The caller's mistakes -/

/-- R163 ("The model faults on both"), U1, U2, U3: the stops of a checked caller, and exactly when each is raised. -/
def Obligations.CallerMistakesStopWhenChecked : Prop :=
  ∀ s : State,
    (∀ b, exec (.writeBit b) s = .fault .writeWhileInput ↔ s.callerChecks = true ∧ s.dir = .input) ∧
    (∀ v, exec (.writeByte v) s = .fault .writeWhileInput ↔ s.callerChecks = true ∧ s.dir = .input) ∧
    (exec .readBit s = .fault .readWhileOutput ↔ s.callerChecks = true ∧ s.dir = .output) ∧
    (exec .readByte s = .fault .readWhileOutput ↔ s.callerChecks = true ∧ s.dir = .output) ∧
    (∀ req w, exec (.transfer req w) s = .refused (.malformedRequest req) ↔
      s.callerChecks = true ∧ isRequest req = false)

/-- For a caller that makes none of those mistakes the check is invisible: the same instruction gives the same state
with it as without it (log entry 1). That the request rows and the acknowledge rows are executed is the model's choice
(log entries 9 and 10). -/
def Obligations.ChecksInvisibleToGoodCallers : Prop :=
  ∀ (i : Instr) (s t : State), callerOk i s = true →
    exec i { s with callerChecks := false } = .next t →
    exec i { s with callerChecks := true } = .next { t with callerChecks := true }

/-- R150: no operation is refused for lack of rights. Without the check (log entry 1), every instruction but the four
reserved codes answers a next state, in every state. That the request rows and the acknowledge rows are executed is the
model's choice (log entries 9 and 10). -/
def Obligations.EveryOperationAlwaysRuns : Prop :=
  ∀ (i : Instr) (s : State), s.callerChecks = false → isReserved i = false → ∃ t, exec i s = .next t

/-- R67: the four reserved rows are refused by name in every state, and so change nothing; and a step from an idle
state refuses a command word with one of the codes `0xC` to `0xF`, whatever its other bits. -/
def Obligations.ReservedCodesAreRefused : Prop :=
  (∀ s : State,
    exec .reservedC s = .refused (.reservedCommand 0xC#4) ∧
    exec .reservedD s = .refused (.reservedCommand 0xD#4) ∧
    exec .reservedE s = .refused (.reservedCommand 0xE#4) ∧
    exec .reservedF s = .refused (.reservedCommand 0xF#4)) ∧
  (∀ (op : BitVec 4) (a : Byte) (w : Word) (s : State) (rest : List Frame),
    op ∈ [0xC#4, 0xD#4, 0xE#4, 0xF#4] → s.phase = .idle →
    s.inbox = .command (commandWord op a w) :: rest →
    step s = .refused (.reservedCommand op))

/-! ### Line reset -/

/-- R90: `LINE_RESET` always completes, sends two passes of at least 50 cycles of 1 and eight of 0, and leaves the line
driven low; nothing is read. The counts hold for every number of high cycles (R64). The response replaces the one before
it and its word (R16 and R42, log entry 16). -/
def Obligations.LineResetSequence : Prop :=
  50 ≤ Config.lineResetHighCycles ∧
  (∀ s : State,
    exec .lineReset s =
      .next { s with
        dir := .output
        swclk := true
        dout := false
        trace := s.trace ++ lineResetTrace Config.lineResetHighCycles
        reply := .success
        result := { s.result with data := none } }) ∧
  (∀ n : Nat, cycleCount (lineResetTrace n) = 2 * (n + 8) ∧ readCount (lineResetTrace n) = 0)

/-! ### Transfer -/

/-- R91, R93: when the acknowledge bits are not OK, `TRANSFER` ends in this state: no data phase, one idle bit, the
class in the response. The zeros that stand for no value in `REQ`, `ACKRAW`, `DSR` and `PARRX` are the model's choice
(log entries 2, 4, 23). The order of the events is that of R91 with the spec's decisions (log entry 20, DEDUCED). -/
def Obligations.TransferNonOkResult : Prop :=
  ∀ (req : RequestByte) (w : Word) (s : State), RequestAccepted req s → ackClass s.nextAck ≠ .ok →
    exec (.transfer req w) s = .next (afterNonOk req s)

/-- R91, R95: when the acknowledge is OK and the request reads, `TRANSFER` ends in this state, whether the parity
matches or not. The zeros that stand for no value in `REQ`, `ACKRAW`, `DSR` and `PARRX` are the model's choice (log
entries 2, 4, 23). The order of the events is that of R91 with the spec's decisions (log entry 20, DEDUCED). -/
def Obligations.TransferReadResult : Prop :=
  ∀ (req : RequestByte) (w : Word) (s : State), RequestAccepted req s → ackClass s.nextAck = .ok → req.getLsbD 2 = true →
    exec (.transfer req w) s = .next (afterRead req s)

/-- R91, R96: when the acknowledge is OK and the request writes, `TRANSFER` ends in this state. The zeros that stand for
no value in `REQ`, `ACKRAW`, `DSR` and `PARRX` are the model's choice (log entries 2, 4, 23). The order of the events is
that of R91 with the spec's decisions (log entry 20, DEDUCED). -/
def Obligations.TransferWriteResult : Prop :=
  ∀ (req : RequestByte) (w : Word) (s : State), RequestAccepted req s → ackClass s.nextAck = .ok → req.getLsbD 2 = false →
    exec (.transfer req w) s = .next (afterWrite req w s)

/-- The phase sequencer of the machine and the line-by-line sequence of R91 do the same to every state. The form of `no
value` in the scratch registers at the end is the model's choice (log entries 2, 4, 23). The order of the events is that
of R91 with the spec's decisions (log entry 20, DEDUCED). -/
def Obligations.SequencerRunsTheWrittenTransfer : Prop :=
  ∀ (req : RequestByte) (w : Word) (s : State), transfer req w s = writtenTransfer req w s

/-- R18, R92: every phase ends in the phase the diagram names, decided by the acknowledge class and the direction only,
and the arrows lead from a started transfer back to `IDLE` in at most seven phases. -/
def Obligations.PhasesFollowTheDiagram : Prop :=
  (∀ s : State, s.phase ≠ .ack →
    (phaseStep s).phase = phaseArrows s.phase (ackClass s.ackraw) (requestReads s.req)) ∧
  (∀ s : State, s.phase = .ack →
    (phaseStep s).phase = phaseArrows s.phase (ackClass (phaseStep s).ackraw) (requestReads s.req)) ∧
  (∀ (req : RequestByte) (w : Word) (s : State),
    (startTransfer req w s).phase = .request ∧ (transfer req w s).phase = .idle)

/-- R65: a non-OK transaction is 13 cycles (9 write, 3 read), a read 47 (9 write, 36 read) and a write 47 (42 write,
3 read), whatever the bits; the cycles that are neither are turnarounds. -/
def Obligations.TransactionCycleCounts : Prop :=
  ∀ (req : RequestByte) (ack : AckPattern) (v : Word) (p : Bit),
    cycleCount (nonOkTrace req ack) = 13 ∧ writeCount (nonOkTrace req ack) = 9 ∧ readCount (nonOkTrace req ack) = 3 ∧
    cycleCount (readTrace req ack v p) = 47 ∧ writeCount (readTrace req ack v p) = 9 ∧
      readCount (readTrace req ack v p) = 36 ∧
    cycleCount (writeTrace req ack v) = 47 ∧ writeCount (writeTrace req ack v) = 42 ∧
      readCount (writeTrace req ack v) = 3

/-- R141, R142: on WAIT and on FAULT the request goes out once, no data phase is attempted and the transaction ends
after 13 cycles with exactly one idle bit; the response has the class and no data. The order of the events is that of
R91 and R93 with the spec's decisions D8, D12 and D14 (log entry 20, DEDUCED). -/
def Obligations.WaitAndFaultEndAfterThirteenCycles : Prop :=
  ∀ (req : RequestByte) (w : Word) (s : State), RequestAccepted req s →
    ackClass s.nextAck = .wait ∨ ackClass s.nextAck = .fault →
    ∃ t ev,
      exec (.transfer req w) s = .next t ∧
      t.trace = s.trace ++ ev ∧
      ev = [.dir .output] ++ writeCycles (lsbBits req) ++ [.dir .input] ++ turnCycle ++
        readCycles (lsbBits s.nextAck) ++ [.dir .output] ++ writeCycle Config.idleValue ∧
      cycleCount ev = 13 ∧
      t.response = some (.result { ack := ackClass s.nextAck, data := none, parityOk := true })

/-- R95: the parity mismatch of a read. The wire sequence is the full 47 cycles of a good read, and the response is
PROTOCOL_ERROR without the word. The order of the events is that of R91 with the spec's decisions D8, D12 and D13 (log
entry 20, DEDUCED). -/
def Obligations.ReadParityMismatch : Prop :=
  ∀ (req : RequestByte) (w : Word) (s : State), RequestAccepted req s → ackClass s.nextAck = .ok → req.getLsbD 2 = true →
    s.nextParity ≠ par32 s.nextWord →
    ∃ t,
      exec (.transfer req w) s = .next t ∧
      t.trace = s.trace ++ readTrace req s.nextAck s.nextWord s.nextParity ∧
      cycleCount (readTrace req s.nextAck s.nextWord s.nextParity) = 47 ∧
      t.response = some (.result { ack := .protocolError, data := none, parityOk := false })

/-- R96: after an acknowledge OK a write drives the 32 bits of the word, their parity and the idle bit, reads nothing
back and always answers OK. The order of the events, the header before the data among them, is that of R91 with the
spec's decisions D8 and D12 (log entry 20, DEDUCED). -/
def Obligations.WriteDrivesWordParityIdle : Prop :=
  ∀ (req : RequestByte) (w : Word) (s : State), RequestAccepted req s → ackClass s.nextAck = .ok → req.getLsbD 2 = false →
    ∃ t ev,
      exec (.transfer req w) s = .next t ∧
      t.trace = s.trace ++ headerTrace req s.nextAck ++ turnCycle ++ [.dir .output] ++ ev ∧
      ev = writeCycles (lsbBits w) ++ writeCycle (par32 w) ++ writeCycle Config.idleValue ∧
      readCount ev = 0 ∧
      t.response = some (.result { ack := .ok, data := none, parityOk := true })

/-- R97: with `req[2] = 1` the operand `wdata` makes no difference; with `req[2] = 0` the response has no data. -/
def Obligations.WdataIgnoredOnReadsNoDataOnWrites : Prop :=
  (∀ (req : RequestByte) (w w' : Word) (s : State), req.getLsbD 2 = true →
    exec (.transfer req w) s = exec (.transfer req w') s) ∧
  (∀ (req : RequestByte) (w : Word) (s : State), RequestAccepted req s → req.getLsbD 2 = false →
    ∃ t r, exec (.transfer req w) s = .next t ∧ t.response = some (.result r) ∧ r.data = none)

/-- R98: the request goes out whole and first, `REQ[0]` first and `REQ[7]` last, every bit driven with `DIR = Output`,
and a malformed byte goes out as it is given. `REQ` holds the byte while it goes out. The order of the events is that of
R91 with the spec's decisions (log entry 20, DEDUCED). -/
def Obligations.RequestGoesOutAsGiven : Prop :=
  ∀ (req : RequestByte) (w : Word) (s : State), RequestAccepted req s →
    ∃ t rest,
      exec (.transfer req w) s = .next t ∧
      (startTransfer req w s).req = req ∧ (requestPhase (startTransfer req w s)).req = req ∧
      t.trace =
        s.trace ++ [.dir .output] ++ writeCycle (req.getLsbD 0) ++ writeCycle (req.getLsbD 1) ++
          writeCycle (req.getLsbD 2) ++ writeCycle (req.getLsbD 3) ++ writeCycle (req.getLsbD 4) ++
          writeCycle (req.getLsbD 5) ++ writeCycle (req.getLsbD 6) ++ writeCycle (req.getLsbD 7) ++
          [.dir .input] ++ rest

/-- U5, S2 (the block's half of the round trip): whatever word the target puts on the line with its parity after an
acknowledge OK, `DP_READ` returns it; and whatever pattern it answers, the response has the pattern's class. -/
def Obligations.ReadReturnsWhatTheLineCarries : Prop :=
  ∀ (addr : Byte) (s : State) (rest : List Bit),
    (∀ v : Word, ∃ t,
      exec (.dpRead addr) { s with env := lsbBits 0b001#3 ++ lsbBits v ++ [par32 v] ++ rest } = .next t ∧
      t.response = some (.result { ack := .ok, data := some v, parityOk := true }) ∧ t.env = rest) ∧
    (∀ p : AckPattern, ackClass p ≠ .ok → ∃ t,
      exec (.dpRead addr) { s with env := lsbBits p ++ rest } = .next t ∧
      t.response = some (.result { ack := ackClass p, data := none, parityOk := true }) ∧ t.env = rest)

/-- R94: after every transaction the block drives the line low, the clock rests at 1 and no transfer is under way. The
rules say so of TRANSFER and the register operations; that a request row is executed as its transaction, and an
acknowledge row, where the block reads one, as the end of a transaction, is the model's choice (log entries 9 and 10).
-/
def Obligations.TransactionsEndDrivingLow : Prop :=
  ∀ (i : Instr) (s t : State), isTransaction i = true → (isAckRow i → s.phase = .ack) → exec i s = .next t →
    t.dir = .output ∧ t.swclk = true ∧ t.dout = false ∧ t.phase = .idle ∧ t.reply = .transferResult

/-! ### Register operations and rows of the other two formats -/

/-- R111: `DP_READ` is one transaction with the request byte R111 lists for the address; the word of its data phase is
its result. The zeros that stand for no value in `REQ`, `ACKRAW`, `DSR` and `PARRX` are the model's choice (log entries
2, 4, 23). The order of the events is that of R91 with the spec's decisions (log entry 20, DEDUCED). -/
def Obligations.DpReadResult : Prop :=
  ∀ (addr : Byte) (s : State),
    exec (.dpRead addr) s = .next (afterTransfer (dpReadRequest addr) 0 s) ∧
    (∀ w, exec (.dpRead addr) s = exec (.transfer (dpReadRequest addr) w) s) ∧
    (∀ w, decode (.command (commandWord 0x8#4 addr w)) = .ok (.dpRead addr))

/-- R112: `DP_WRITE` is one transaction with the request byte R112 lists for the address. The zeros that stand for no
value in `REQ`, `ACKRAW`, `DSR` and `PARRX` are the model's choice (log entries 2, 4, 23). The order of the events is
that of R91 with the spec's decisions (log entry 20, DEDUCED). -/
def Obligations.DpWriteResult : Prop :=
  ∀ (addr : Byte) (w : Word) (s : State),
    exec (.dpWrite addr w) s = .next (afterTransfer (dpWriteRequest addr) w s) ∧
    exec (.dpWrite addr w) s = exec (.transfer (dpWriteRequest addr) w) s ∧
    decode (.command (commandWord 0x9#4 addr w)) = .ok (.dpWrite addr w)

/-- R113: `AP_WRITE` is one transaction with the request byte R113 lists for the address; there is no second step. The
zeros that stand for no value in `REQ`, `ACKRAW`, `DSR` and `PARRX` are the model's choice (log entries 2, 4, 23). The
order of the events is that of R91 with the spec's decisions (log entry 20, DEDUCED). -/
def Obligations.ApWriteResult : Prop :=
  ∀ (addr : Byte) (w : Word) (s : State),
    exec (.apWrite addr w) s = .next (afterTransfer (apWriteRequest addr) w s) ∧
    exec (.apWrite addr w) s = exec (.transfer (apWriteRequest addr) w) s ∧
    decode (.command (commandWord 0xB#4 addr w)) = .ok (.apWrite addr w)

/-- R114: `AP_READ` is an AP read and, only if that was OK, a DP read of `RDBUFF` (request `0xBD`), whose result it
returns. That the second step is not made after a failure is decision D18. The zeros that stand for no value in `REQ`,
`ACKRAW`, `DSR` and `PARRX` are the model's choice (log entries 2, 4, 23). The order of the events is that of R91 with
the spec's decisions (log entry 20, DEDUCED). -/
def Obligations.ApReadResult : Prop :=
  ∀ (addr : Byte) (s : State),
    exec (.apRead addr) s =
      .next
        (let t1 := afterTransfer (apReadRequest addr) 0 s
         if t1.result.ack = .ok then afterTransfer 0xBD#8 0 t1 else t1)

/-- R114: the cycles of `AP_READ`: 94, 13, 47 + 13 = 60, 47 or 94, by what failed. -/
def Obligations.ApReadCycleCounts : Prop :=
  ∀ (addr : Byte) (s : State),
    let t1 := afterTransfer (apReadRequest addr) 0 s
    ∃ t ev,
      exec (.apRead addr) s = .next t ∧ t.trace = s.trace ++ ev ∧
      cycleCount ev =
        if ackClass s.nextAck ≠ .ok then 13
        else if s.nextParity ≠ par32 s.nextWord then 47
        else if ackClass t1.nextAck ≠ .ok then 60
        else 94

/-- U10, R114: the word of the first data phase of `AP_READ` is parity-checked and dropped: two words that both pass
give the same response. -/
def Obligations.ApReadDropsTheFirstWord : Prop :=
  ∀ (addr : Byte) (s : State) (v v' : Word) (rest : List Bit),
    ∃ t t',
      exec (.apRead addr) { s with env := lsbBits 0b001#3 ++ lsbBits v ++ [par32 v] ++ rest } = .next t ∧
      exec (.apRead addr) { s with env := lsbBits 0b001#3 ++ lsbBits v' ++ [par32 v'] ++ rest } = .next t' ∧
      t.response = t'.response

/-- R57, R91: each request row is the transaction its header opens; a read row is that of no operand, a write row that
of its word. That a row is executed so is the model's choice (log entry 9). The zeros that stand for no value in `REQ`,
`ACKRAW`, `DSR` and `PARRX` are the model's choice (log entries 2, 4, 23). The order of the events is that of R91 with
the spec's decisions (log entry 20, DEDUCED). -/
def Obligations.RequestRowsAreTransactions : Prop :=
  (∀ (i : Instr) (h : Byte) (s : State), (i, h) ∈ readRows → exec i s = .next (afterTransfer h 0 s)) ∧
  (∀ (i : Instr) (h : Byte) (w : Word) (s : State), (i, h) ∈ writeRows w → exec i s = .next (afterTransfer h w s))

/-- R58, R59, R68, R91: in the acknowledge phase each pattern is classified and the transfer in `REQ` runs to its end,
to a data phase for OK and straight to the idle bit otherwise. That a pattern is executed so is the model's choice (log
entry 10). The zeros that stand for no value in `REQ`, `ACKRAW`, `DSR` and `PARRX` are the model's choice (log entries
2, 4, 23). The order of the events is that of R91 with the spec's decisions (log entry 20, DEDUCED). -/
def Obligations.AckRowsFinishTheTransfer : Prop :=
  ∀ (i : Instr) (p : AckPattern) (s : State), (i, p) ∈ ackRows → s.phase = .ack → s.dir = .input →
    exec i s = .next (afterPattern p s)

/-- R145: outside the acknowledge phase the block does not look at the line, so a pattern on it changes nothing (the
model's reading, log entry 10). -/
def Obligations.AckOutsideItsPhaseIsIgnored : Prop :=
  ∀ (i : Instr) (s : State), isAckRow i → s.phase ≠ .ack → exec i s = .next s

/-- The model's choice to execute an acknowledge row as the environment's answer (log entry 10) agrees with R91: a
transfer that receives a pattern ends as the pattern's row ends it from the acknowledge phase. The spec says nothing of
executing a pattern. -/
def Obligations.TransferIsHeaderThenAckRow : Prop :=
  ∀ (req : RequestByte) (w : Word) (i : Instr) (p : AckPattern) (s : State), (i, p) ∈ ackRows → RequestAccepted req s →
    exec (.transfer req w) { s with env := lsbBits p ++ s.env } =
      exec i (firstTurnPhase (requestPhase (startTransfer req w s)))

/-! ### The whole machine -/

/-- R11: the bit and byte operations and the formatter never change `DIR`. -/
def Obligations.BitOperationsKeepDirection : Prop :=
  ∀ (i : Instr) (s t : State),
    (∃ b, i = .writeBit b) ∨ i = .readBit ∨ (∃ v, i = .writeByte v) ∨ i = .readByte ∨
      (∃ p r a, i = .formatRequest p r a) →
    exec i s = .next t → t.dir = s.dir

/-- R20: `ack` and `parity_ok` are written by transactions only, and each transaction overwrites the whole result, so
that nothing of the earlier ones remains. An operation that is no transaction drops the word of the result before it
(R42, log entry 16). -/
def Obligations.StatusWrittenByTransactionsOnly : Prop :=
  (∀ (i : Instr) (s t : State), isTransaction i = false → exec i s = .next t →
    t.result = { s.result with data := none }) ∧
  (∀ (req : RequestByte) (w : Word) (r : TransferResult) (s : State),
    exec (.transfer req w) { s with result := r } = exec (.transfer req w) s)

/-- R42, R10, R25: what was read is not kept. A word in the last result reaches nothing that the next operation leaves;
a transaction writes each scratch register, and the operand it holds, before it reads it, and gives up all five when it
ends (the form of no value is that of log entries 2, 4 and 23). That a request row is executed as its transaction is the
model's choice (log entry 9); an acknowledge row is no operation of the host (log entry 10). -/
def Obligations.NothingReadIsKept : Prop :=
  (∀ (i : Instr) (d : Option Word) (s : State), ¬ isAckRow i →
    exec i { s with result := { s.result with data := d } } = exec i s) ∧
  (∀ (i : Instr) (q : RequestByte) (a : AckPattern) (v w : Word) (p : Bit) (s : State),
    isTransaction i = true → ¬ isAckRow i →
    exec i { s with req := q, ackraw := a, dsr := v, parrx := p, wdata := w } = exec i s) ∧
  (∀ (i : Instr) (s t : State), isTransaction i = true → (isAckRow i → s.phase = .ack) → exec i s = .next t →
    scratchReleased t)

/-- R16, R25, U8: reading `RESP` is a host error exactly while it has no value, which is before the first operation
ends: every operation that completes leaves a response that can be read, no step takes it away, and no instruction and
no step raises that fault. That a request row is an operation, and an acknowledge row where the block reads one, is
the model's choice (log entries 9 and 10). -/
def Obligations.RespFaultsOnlyBeforeTheFirstOperation : Prop :=
  (∀ s : State, s.readResponse = .error .respHasNoValue ↔ s.reply = .noValue) ∧
  (∀ (i : Instr) (s t : State), (isAckRow i → s.phase = .ack) → exec i s = .next t →
    ∃ r, t.readResponse = .ok r) ∧
  (∀ s t : State, (∃ r, s.readResponse = .ok r) → step s = .next t → ∃ r, t.readResponse = .ok r) ∧
  (∀ (i : Instr) (s : State), exec i s ≠ .fault .respHasNoValue) ∧
  (∀ s : State, step s ≠ .fault .respHasNoValue)

/-- R17, for the operations of the host that end with a Transaction Result, from every state: a success has `parity_ok`,
a parity failure has no data and is a PROTOCOL_ERROR, and there is no data without OK. -/
def Obligations.HostResultsAreConsistent : Prop :=
  ∀ (i : Instr) (s t : State),
    (∃ q w, i = .transfer q w) ∨ (∃ a, i = .dpRead a) ∨ (∃ a w, i = .dpWrite a w) ∨ (∃ a, i = .apRead a) ∨
      (∃ a w, i = .apWrite a w) →
    exec i s = .next t →
    ∃ r, t.response = some (.result r) ∧
      (r.ack = .ok → r.parityOk = true) ∧
      (r.parityOk = false → r.data = none ∧ r.ack = .protocolError) ∧
      (r.data.isSome = true → r.ack = .ok)

/-- R22, R39, and the model's own fields: an instruction only appends to the trace, and leaves the inbox and the
treatment of the caller's mistakes as they are (log entries 1 and 7). That the request rows and the acknowledge rows are
executed is the model's choice (log entries 9 and 10). -/
def Obligations.ExecAppendsToTrace : Prop :=
  ∀ (i : Instr) (s t : State), exec i s = .next t →
    (∃ ev, t.trace = s.trace ++ ev) ∧ t.inbox = s.inbox ∧ t.callerChecks = s.callerChecks

/-- R101, R172: whatever the environment answers, an instruction that runs from an idle block adds at most the cycles of
a line reset or of an `AP_READ`. That the request rows and the acknowledge rows are executed is the model's choice (log
entries 9 and 10). -/
def Obligations.CyclesAreBounded : Prop :=
  ∀ (i : Instr) (s t : State), s.phase = .idle → exec i s = .next t →
    cycleCount t.trace ≤ cycleCount s.trace + max (2 * (Config.lineResetHighCycles + 8)) 94

/-- R17: no response has OK with a parity failure and none has data without OK. That the request rows and the
acknowledge rows are executed, and so end with a response, is the model's choice (log entries 9 and 10). -/
def Obligations.ResponsesAreConsistent : Prop :=
  ∀ (i : Instr) (s t : State) (r : TransferResult), resultConsistent s.result = true → exec i s = .next t →
    t.response = some (.result r) →
    ¬ (r.ack = .ok ∧ r.parityOk = false) ∧ ¬ (r.data.isSome = true ∧ r.ack ≠ .ok)

/-- R99, R163: the packet operations do their own switching: from any direction, with or without the check, what they
add to the wire drives only while `DIR = Output` and samples only while `DIR = Input`. That there is a check is the
model's choice (log entry 1), and so is executing a request row as its transaction, by which it counts as a packet
operation (log entry 9). -/
def Obligations.PacketOperationsAreWellDriven : Prop :=
  ∀ (i : Instr) (s t : State) (d : Dir), (isTransaction i = true ∧ ¬ isAckRow i) ∨ i = .lineReset →
    exec i s = .next t → ∃ ev, t.trace = s.trace ++ ev ∧ wellDriven d ev = true

/-! ### Steps and reset -/

/-- When the word at the head of the inbox decodes and the block accepts it, a step takes it and runs it. The
inbox is the model's own (log entry 7). -/
def Obligations.StepRunsTheDecodedInstruction : Prop :=
  ∀ (f : Frame) (rest : List Frame) (i : Instr) (s : State),
    s.inbox = f :: rest → decode f = .ok i → accepts f s = true →
    step s = exec i { s with inbox := rest }

/-- R169: with no transfer under way and nothing presented the block is quiescent. -/
def Obligations.StepWithoutInputIsQuiescent : Prop :=
  ∀ s : State, s.phase = .idle → s.inbox = [] → step s = .next s

/-- R86, U7: a command or a request presented while a transfer is under way is refused, and a byte at the request port
that is none of the sixteen headers is refused by name (R69). -/
def Obligations.StepRefusesWhatItCannotTake : Prop :=
  (∀ (f : Frame) (rest : List Frame) (i : Instr) (s : State),
    s.inbox = f :: rest → decode f = .ok i → (∀ p, f ≠ .ack p) → s.phase ≠ .idle →
    step s = .refused .operationInFlight) ∧
  (∀ (h : Byte) (d : Word) (rest : List Frame) (s : State),
    s.inbox = .request h d :: rest → isRequest h = false → step s = .refused (.malformedRequest h))

/-- R25, R160 (values of decision D22): what reset leaves, and that `RESP` cannot be read yet (U8). -/
def Obligations.ResetValues : Prop :=
  State.reset.dir = .input ∧ State.reset.swclk = true ∧ State.reset.dout = true ∧ State.reset.phase = .idle ∧
  State.reset.trace = [] ∧ State.reset.drivenLevel = none ∧
  State.reset.readResponse = .error .respHasNoValue

/-- The state after reset meets the invariants. That its last result obeys R17 rests on the values of log entry 3, and
that its scratch registers hold no value on those of log entries 2 and 4. -/
def Obligations.ResetMeetsTheInvariants : Prop :=
  Quiescent State.reset ∧ WellDrivenHistory State.reset ∧ wholePulses State.reset.trace = true

/-- R12, R17, R42, R169: a step from a quiescent state ends in a quiescent state. What a step runs, and that
it runs the request rows and the acknowledge rows, is the model's choice (log entries 7, 9 and 10). -/
def Obligations.StepKeepsQuiescent : Prop :=
  ∀ s t : State, Quiescent s → step s = .next t → Quiescent t

/-- R12, R22, R8: from every state, the trace goes on explaining the outputs and consists of whole clock pulses: the
block changes an output only by an event, and leaves no pulse half made. What a step runs, and that it runs the request
rows and the acknowledge rows, is the model's choice (log entries 7, 9 and 10). -/
def Obligations.StepKeepsTraceFaithful : Prop :=
  ∀ s t : State, step s = .next t →
    (TraceExplainsPins s → TraceExplainsPins t) ∧
    (wholePulses s.trace = true → wholePulses t.trace = true)

/-- R163: with the caller's mistakes checked (log entry 1), no step from an idle block ever drives data on a released
line or samples a driven one. What a step runs, and that it runs the request rows and the acknowledge rows, is the
model's choice (log entries 7, 9 and 10). -/
def Obligations.CheckedStepsAreWellDriven : Prop :=
  ∀ s t : State, s.callerChecks = true → s.phase = .idle → WellDrivenHistory s → step s = .next t →
    WellDrivenHistory t
end

