-- ==== Sys2Proof/Laws/Bits.lean ====
section
/-! SUPPORT. Bits on the wire and values: packing undoes unpacking, and the laws of the two parities (R32, R55, R60, R61). -/

namespace Sys2Proof.Machine

open Sys2Proof

@[simp] theorem lsbBits_length {n : Nat} (v : BitVec n) : (lsbBits v).length = n := by
  simp [lsbBits]

theorem lsbBits_getElem {n : Nat} (v : BitVec n) (k : Nat) (h : k < (lsbBits v).length) :
    (lsbBits v)[k] = v.getLsbD k := by
  simp [lsbBits]

theorem bitsToNat_testBit (bits : List Bit) (k : Nat) : (bitsToNat bits).testBit k = bits[k]?.getD false := by
  induction bits generalizing k with
  | nil => simp [bitsToNat]
  | cons b rest ih =>
    cases k with
    | zero => cases b <;> simp [bitsToNat, Nat.testBit_zero]
    | succ k =>
      have h : (b.toNat + 2 * bitsToNat rest) / 2 = bitsToNat rest := by cases b <;> simp [Nat.add_mul_div_left]
      rw [bitsToNat, Nat.testBit_succ, h, ih]
      simp

theorem packLsb_getLsbD (n : Nat) (bits : List Bit) (k : Nat) :
    (packLsb n bits).getLsbD k = (decide (k < n) && bits[k]?.getD false) := by
  simp [packLsb, BitVec.getLsbD_ofNat, bitsToNat_testBit]

/-- The value received is the value sent: both directions go least significant bit first (R32, R60). -/
@[simp] theorem packLsb_lsbBits {n : Nat} (v : BitVec n) : packLsb n (lsbBits v) = v := by
  apply BitVec.eq_of_getLsbD_eq
  intro k hk
  rw [packLsb_getLsbD]
  simp [lsbBits, hk]

theorem lsbBits_packLsb {n : Nat} (bits : List Bit) (h : bits.length = n) : lsbBits (packLsb n bits) = bits := by
  apply List.ext_getElem
  · simp [h]
  · intro k hk hk'
    rw [lsbBits_getElem, packLsb_getLsbD]
    simp at hk
    simp [hk, List.getElem?_eq_getElem hk']

theorem foldl_xor_start (bits : List Bit) (a : Bit) :
    bits.foldl (· ^^ ·) a = (a ^^ bits.foldl (· ^^ ·) false) := by
  induction bits generalizing a with
  | nil => simp
  | cons b rest ih => rw [List.foldl_cons, ih, List.foldl_cons, ih (false ^^ b)]; simp

end Sys2Proof.Machine
end

