-- ==== Sys2Proof/Laws/Encoding.lean ====
section
/-! SUPPORT. The fields of a command word are the fields it was made of (R66). -/

namespace Sys2Proof

theorem commandWord_getLsbD (op : BitVec 4) (a : Byte) (w : Word) (k : Nat) :
    (commandWord op a w).getLsbD k =
      if k < 32 then w.getLsbD k else if k < 40 then a.getLsbD (k - 32) else op.getLsbD (k - 40) := by
  have outer : (commandWord op a w).getLsbD k = _ := BitVec.getLsbD_append (x := op ++ a) (y := w) (i := k)
  have inner := BitVec.getLsbD_append (x := op) (y := a) (i := k - 32)
  rw [outer, inner]
  by_cases h32 : k < 32
  · simp [h32]
  · by_cases h40 : k < 40
    · simp [h32, h40, show k - 32 < 8 by omega]
    · simp [h32, h40, show ¬ k - 32 < 8 by omega, show k - 32 - 8 = k - 40 by omega]

@[simp] theorem commandOp_commandWord (op : BitVec 4) (a : Byte) (w : Word) : commandOp (commandWord op a w) = op := by
  apply BitVec.eq_of_getLsbD_eq
  intro k hk
  have hk : k < 4 := hk
  rw [show commandOp (commandWord op a w) = (commandWord op a w).extractLsb' 40 4 from rfl,
    BitVec.getLsbD_extractLsb', commandWord_getLsbD]
  simp [hk, show ¬ 40 + k < 32 by omega, show ¬ 40 + k < 40 by omega]

@[simp] theorem commandArg8_commandWord (op : BitVec 4) (a : Byte) (w : Word) :
    commandArg8 (commandWord op a w) = a := by
  apply BitVec.eq_of_getLsbD_eq
  intro k hk
  have hk : k < 8 := hk
  rw [show commandArg8 (commandWord op a w) = (commandWord op a w).extractLsb' 32 8 from rfl,
    BitVec.getLsbD_extractLsb', commandWord_getLsbD]
  simp [hk, show 32 + k < 40 by omega]

@[simp] theorem commandWdata_commandWord (op : BitVec 4) (a : Byte) (w : Word) :
    commandWdata (commandWord op a w) = w := by
  apply BitVec.eq_of_getLsbD_eq
  intro k hk
  have hk : k < 32 := hk
  rw [show commandWdata (commandWord op a w) = (commandWord op a w).extractLsb' 0 32 from rfl,
    BitVec.getLsbD_extractLsb', commandWord_getLsbD]
  simp [hk]

/-- The address bits that reach a request are bits 3 and 2 (R34). -/
theorem addressMask_eq : addressMask = 0x0C#8 := by decide

end Sys2Proof
end

