-- ==== Sys2Proof/Laws/State.lean ====
section
/-! SUPPORT. What each update of the state leaves in each field, so that no later proof unfolds an update. -/

namespace Sys2Proof.Machine

open Sys2Proof

/-! ### respond -/

@[simp] theorem respond_dir (r : Reply) (s : State) : (s.respond r).dir = s.dir := rfl

@[simp] theorem respond_swclk (r : Reply) (s : State) : (s.respond r).swclk = s.swclk := rfl

@[simp] theorem respond_dout (r : Reply) (s : State) : (s.respond r).dout = s.dout := rfl

@[simp] theorem respond_reply (r : Reply) (s : State) : (s.respond r).reply = r := rfl

@[simp] theorem respond_result (r : Reply) (s : State) : (s.respond r).result = { s.result with data := none } := rfl

@[simp] theorem respond_phase (r : Reply) (s : State) : (s.respond r).phase = s.phase := rfl

@[simp] theorem respond_req (r : Reply) (s : State) : (s.respond r).req = s.req := rfl

@[simp] theorem respond_ackraw (r : Reply) (s : State) : (s.respond r).ackraw = s.ackraw := rfl

@[simp] theorem respond_dsr (r : Reply) (s : State) : (s.respond r).dsr = s.dsr := rfl

@[simp] theorem respond_parrx (r : Reply) (s : State) : (s.respond r).parrx = s.parrx := rfl

@[simp] theorem respond_trace (r : Reply) (s : State) : (s.respond r).trace = s.trace := rfl

@[simp] theorem respond_wdata (r : Reply) (s : State) : (s.respond r).wdata = s.wdata := rfl

@[simp] theorem respond_env (r : Reply) (s : State) : (s.respond r).env = s.env := rfl

@[simp] theorem respond_draws (r : Reply) (s : State) : (s.respond r).draws = s.draws := rfl

@[simp] theorem respond_callerChecks (r : Reply) (s : State) : (s.respond r).callerChecks = s.callerChecks := rfl

@[simp] theorem respond_inbox (r : Reply) (s : State) : (s.respond r).inbox = s.inbox := rfl

/-! ### respondResult -/

@[simp] theorem respondResult_dir (r : TransferResult) (s : State) : (s.respondResult r).dir = s.dir := rfl

@[simp] theorem respondResult_swclk (r : TransferResult) (s : State) : (s.respondResult r).swclk = s.swclk := rfl

@[simp] theorem respondResult_dout (r : TransferResult) (s : State) : (s.respondResult r).dout = s.dout := rfl

@[simp] theorem respondResult_reply (r : TransferResult) (s : State) : (s.respondResult r).reply = .transferResult := rfl

@[simp] theorem respondResult_result (r : TransferResult) (s : State) : (s.respondResult r).result = r := rfl

@[simp] theorem respondResult_phase (r : TransferResult) (s : State) : (s.respondResult r).phase = s.phase := rfl

@[simp] theorem respondResult_req (r : TransferResult) (s : State) : (s.respondResult r).req = s.req := rfl

@[simp] theorem respondResult_ackraw (r : TransferResult) (s : State) : (s.respondResult r).ackraw = s.ackraw := rfl

@[simp] theorem respondResult_dsr (r : TransferResult) (s : State) : (s.respondResult r).dsr = s.dsr := rfl

@[simp] theorem respondResult_parrx (r : TransferResult) (s : State) : (s.respondResult r).parrx = s.parrx := rfl

@[simp] theorem respondResult_trace (r : TransferResult) (s : State) : (s.respondResult r).trace = s.trace := rfl

@[simp] theorem respondResult_wdata (r : TransferResult) (s : State) : (s.respondResult r).wdata = s.wdata := rfl

@[simp] theorem respondResult_env (r : TransferResult) (s : State) : (s.respondResult r).env = s.env := rfl

@[simp] theorem respondResult_draws (r : TransferResult) (s : State) : (s.respondResult r).draws = s.draws := rfl

@[simp] theorem respondResult_callerChecks (r : TransferResult) (s : State) : (s.respondResult r).callerChecks = s.callerChecks := rfl

@[simp] theorem respondResult_inbox (r : TransferResult) (s : State) : (s.respondResult r).inbox = s.inbox := rfl

/-! ### releaseScratch -/

@[simp] theorem releaseScratch_dir (s : State) : s.releaseScratch.dir = s.dir := rfl

@[simp] theorem releaseScratch_swclk (s : State) : s.releaseScratch.swclk = s.swclk := rfl

@[simp] theorem releaseScratch_dout (s : State) : s.releaseScratch.dout = s.dout := rfl

@[simp] theorem releaseScratch_reply (s : State) : s.releaseScratch.reply = s.reply := rfl

@[simp] theorem releaseScratch_result (s : State) : s.releaseScratch.result = s.result := rfl

@[simp] theorem releaseScratch_phase (s : State) : s.releaseScratch.phase = s.phase := rfl

@[simp] theorem releaseScratch_req (s : State) : s.releaseScratch.req = 0 := rfl

@[simp] theorem releaseScratch_ackraw (s : State) : s.releaseScratch.ackraw = 0 := rfl

@[simp] theorem releaseScratch_dsr (s : State) : s.releaseScratch.dsr = 0 := rfl

@[simp] theorem releaseScratch_parrx (s : State) : s.releaseScratch.parrx = false := rfl

@[simp] theorem releaseScratch_trace (s : State) : s.releaseScratch.trace = s.trace := rfl

@[simp] theorem releaseScratch_wdata (s : State) : s.releaseScratch.wdata = 0 := rfl

@[simp] theorem releaseScratch_env (s : State) : s.releaseScratch.env = s.env := rfl

@[simp] theorem releaseScratch_draws (s : State) : s.releaseScratch.draws = s.draws := rfl

@[simp] theorem releaseScratch_callerChecks (s : State) : s.releaseScratch.callerChecks = s.callerChecks := rfl

@[simp] theorem releaseScratch_inbox (s : State) : s.releaseScratch.inbox = s.inbox := rfl

/-! ### setDir -/

@[simp] theorem setDir_dir (d : Dir) (s : State) : (setDir d s).dir = d := rfl

@[simp] theorem setDir_swclk (d : Dir) (s : State) : (setDir d s).swclk = s.swclk := rfl

@[simp] theorem setDir_dout (d : Dir) (s : State) : (setDir d s).dout = s.dout := rfl

@[simp] theorem setDir_reply (d : Dir) (s : State) : (setDir d s).reply = s.reply := rfl

@[simp] theorem setDir_result (d : Dir) (s : State) : (setDir d s).result = s.result := rfl

@[simp] theorem setDir_phase (d : Dir) (s : State) : (setDir d s).phase = s.phase := rfl

@[simp] theorem setDir_req (d : Dir) (s : State) : (setDir d s).req = s.req := rfl

@[simp] theorem setDir_ackraw (d : Dir) (s : State) : (setDir d s).ackraw = s.ackraw := rfl

@[simp] theorem setDir_dsr (d : Dir) (s : State) : (setDir d s).dsr = s.dsr := rfl

@[simp] theorem setDir_parrx (d : Dir) (s : State) : (setDir d s).parrx = s.parrx := rfl

@[simp] theorem setDir_trace (d : Dir) (s : State) : (setDir d s).trace = s.trace ++ [.dir d] := rfl

@[simp] theorem setDir_wdata (d : Dir) (s : State) : (setDir d s).wdata = s.wdata := rfl

@[simp] theorem setDir_env (d : Dir) (s : State) : (setDir d s).env = s.env := rfl

@[simp] theorem setDir_draws (d : Dir) (s : State) : (setDir d s).draws = s.draws := rfl

@[simp] theorem setDir_callerChecks (d : Dir) (s : State) : (setDir d s).callerChecks = s.callerChecks := rfl

@[simp] theorem setDir_inbox (d : Dir) (s : State) : (setDir d s).inbox = s.inbox := rfl

/-! ### drive -/

@[simp] theorem drive_dir (b : Bit) (s : State) : (drive b s).dir = s.dir := rfl

@[simp] theorem drive_swclk (b : Bit) (s : State) : (drive b s).swclk = s.swclk := rfl

@[simp] theorem drive_dout (b : Bit) (s : State) : (drive b s).dout = b := rfl

@[simp] theorem drive_reply (b : Bit) (s : State) : (drive b s).reply = s.reply := rfl

@[simp] theorem drive_result (b : Bit) (s : State) : (drive b s).result = s.result := rfl

@[simp] theorem drive_phase (b : Bit) (s : State) : (drive b s).phase = s.phase := rfl

@[simp] theorem drive_req (b : Bit) (s : State) : (drive b s).req = s.req := rfl

@[simp] theorem drive_ackraw (b : Bit) (s : State) : (drive b s).ackraw = s.ackraw := rfl

@[simp] theorem drive_dsr (b : Bit) (s : State) : (drive b s).dsr = s.dsr := rfl

@[simp] theorem drive_parrx (b : Bit) (s : State) : (drive b s).parrx = s.parrx := rfl

@[simp] theorem drive_trace (b : Bit) (s : State) : (drive b s).trace = s.trace ++ [.data b] := rfl

@[simp] theorem drive_wdata (b : Bit) (s : State) : (drive b s).wdata = s.wdata := rfl

@[simp] theorem drive_env (b : Bit) (s : State) : (drive b s).env = s.env := rfl

@[simp] theorem drive_draws (b : Bit) (s : State) : (drive b s).draws = s.draws := rfl

@[simp] theorem drive_callerChecks (b : Bit) (s : State) : (drive b s).callerChecks = s.callerChecks := rfl

@[simp] theorem drive_inbox (b : Bit) (s : State) : (drive b s).inbox = s.inbox := rfl

/-! ### clk -/

@[simp] theorem clk_dir (l : Bit) (s : State) : (clk l s).dir = s.dir := rfl

@[simp] theorem clk_swclk (l : Bit) (s : State) : (clk l s).swclk = l := rfl

@[simp] theorem clk_dout (l : Bit) (s : State) : (clk l s).dout = s.dout := rfl

@[simp] theorem clk_reply (l : Bit) (s : State) : (clk l s).reply = s.reply := rfl

@[simp] theorem clk_result (l : Bit) (s : State) : (clk l s).result = s.result := rfl

@[simp] theorem clk_phase (l : Bit) (s : State) : (clk l s).phase = s.phase := rfl

@[simp] theorem clk_req (l : Bit) (s : State) : (clk l s).req = s.req := rfl

@[simp] theorem clk_ackraw (l : Bit) (s : State) : (clk l s).ackraw = s.ackraw := rfl

@[simp] theorem clk_dsr (l : Bit) (s : State) : (clk l s).dsr = s.dsr := rfl

@[simp] theorem clk_parrx (l : Bit) (s : State) : (clk l s).parrx = s.parrx := rfl

@[simp] theorem clk_trace (l : Bit) (s : State) : (clk l s).trace = s.trace ++ [.clk l] := rfl

@[simp] theorem clk_wdata (l : Bit) (s : State) : (clk l s).wdata = s.wdata := rfl

@[simp] theorem clk_env (l : Bit) (s : State) : (clk l s).env = s.env := rfl

@[simp] theorem clk_draws (l : Bit) (s : State) : (clk l s).draws = s.draws := rfl

@[simp] theorem clk_callerChecks (l : Bit) (s : State) : (clk l s).callerChecks = s.callerChecks := rfl

@[simp] theorem clk_inbox (l : Bit) (s : State) : (clk l s).inbox = s.inbox := rfl

/-! ### writeBit -/

@[simp] theorem writeBit_dir (b : Bit) (s : State) : (writeBit b s).dir = s.dir := rfl

@[simp] theorem writeBit_swclk (b : Bit) (s : State) : (writeBit b s).swclk = true := rfl

@[simp] theorem writeBit_dout (b : Bit) (s : State) : (writeBit b s).dout = b := rfl

@[simp] theorem writeBit_reply (b : Bit) (s : State) : (writeBit b s).reply = s.reply := rfl

@[simp] theorem writeBit_result (b : Bit) (s : State) : (writeBit b s).result = s.result := rfl

@[simp] theorem writeBit_phase (b : Bit) (s : State) : (writeBit b s).phase = s.phase := rfl

@[simp] theorem writeBit_req (b : Bit) (s : State) : (writeBit b s).req = s.req := rfl

@[simp] theorem writeBit_ackraw (b : Bit) (s : State) : (writeBit b s).ackraw = s.ackraw := rfl

@[simp] theorem writeBit_dsr (b : Bit) (s : State) : (writeBit b s).dsr = s.dsr := rfl

@[simp] theorem writeBit_parrx (b : Bit) (s : State) : (writeBit b s).parrx = s.parrx := rfl

@[simp] theorem writeBit_trace (b : Bit) (s : State) : (writeBit b s).trace = s.trace ++ writeCycle b := by
  simp [writeBit, clk, drive, writeCycle]

@[simp] theorem writeBit_wdata (b : Bit) (s : State) : (writeBit b s).wdata = s.wdata := rfl

@[simp] theorem writeBit_env (b : Bit) (s : State) : (writeBit b s).env = s.env := rfl

@[simp] theorem writeBit_draws (b : Bit) (s : State) : (writeBit b s).draws = s.draws := rfl

@[simp] theorem writeBit_callerChecks (b : Bit) (s : State) : (writeBit b s).callerChecks = s.callerChecks := rfl

@[simp] theorem writeBit_inbox (b : Bit) (s : State) : (writeBit b s).inbox = s.inbox := rfl

/-! ### enter -/

@[simp] theorem enter_dir (p : Phase) (s : State) : (s.enter p).dir = s.dir := rfl

@[simp] theorem enter_swclk (p : Phase) (s : State) : (s.enter p).swclk = s.swclk := rfl

@[simp] theorem enter_dout (p : Phase) (s : State) : (s.enter p).dout = s.dout := rfl

@[simp] theorem enter_reply (p : Phase) (s : State) : (s.enter p).reply = s.reply := rfl

@[simp] theorem enter_result (p : Phase) (s : State) : (s.enter p).result = s.result := rfl

@[simp] theorem enter_phase (p : Phase) (s : State) : (s.enter p).phase = p := rfl

@[simp] theorem enter_req (p : Phase) (s : State) : (s.enter p).req = s.req := rfl

@[simp] theorem enter_ackraw (p : Phase) (s : State) : (s.enter p).ackraw = s.ackraw := rfl

@[simp] theorem enter_dsr (p : Phase) (s : State) : (s.enter p).dsr = s.dsr := rfl

@[simp] theorem enter_parrx (p : Phase) (s : State) : (s.enter p).parrx = s.parrx := rfl

@[simp] theorem enter_trace (p : Phase) (s : State) : (s.enter p).trace = s.trace := rfl

@[simp] theorem enter_wdata (p : Phase) (s : State) : (s.enter p).wdata = s.wdata := rfl

@[simp] theorem enter_env (p : Phase) (s : State) : (s.enter p).env = s.env := rfl

@[simp] theorem enter_draws (p : Phase) (s : State) : (s.enter p).draws = s.draws := rfl

@[simp] theorem enter_callerChecks (p : Phase) (s : State) : (s.enter p).callerChecks = s.callerChecks := rfl

@[simp] theorem enter_inbox (p : Phase) (s : State) : (s.enter p).inbox = s.inbox := rfl

/-! ### turn -/

@[simp] theorem turn_dir (s : State) : (turn s).dir = s.dir := rfl

@[simp] theorem turn_swclk (s : State) : (turn s).swclk = true := rfl

@[simp] theorem turn_dout (s : State) : (turn s).dout = s.dout := rfl

@[simp] theorem turn_reply (s : State) : (turn s).reply = s.reply := rfl

@[simp] theorem turn_result (s : State) : (turn s).result = s.result := rfl

@[simp] theorem turn_phase (s : State) : (turn s).phase = s.phase := rfl

@[simp] theorem turn_req (s : State) : (turn s).req = s.req := rfl

@[simp] theorem turn_ackraw (s : State) : (turn s).ackraw = s.ackraw := rfl

@[simp] theorem turn_dsr (s : State) : (turn s).dsr = s.dsr := rfl

@[simp] theorem turn_parrx (s : State) : (turn s).parrx = s.parrx := rfl

@[simp] theorem turn_trace (s : State) : (turn s).trace = s.trace ++ turnCycle := by
  simp [turn, pulses, Config.trnCycles, clk, turnCycle]

@[simp] theorem turn_wdata (s : State) : (turn s).wdata = s.wdata := rfl

@[simp] theorem turn_env (s : State) : (turn s).env = s.env := rfl

@[simp] theorem turn_draws (s : State) : (turn s).draws = s.draws := rfl

@[simp] theorem turn_callerChecks (s : State) : (turn s).callerChecks = s.callerChecks := rfl

@[simp] theorem turn_inbox (s : State) : (turn s).inbox = s.inbox := rfl

/-! ### startTransfer -/

@[simp] theorem startTransfer_dir (q : RequestByte) (w : Word) (s : State) : (startTransfer q w s).dir = s.dir := rfl

@[simp] theorem startTransfer_swclk (q : RequestByte) (w : Word) (s : State) : (startTransfer q w s).swclk = s.swclk := rfl

@[simp] theorem startTransfer_dout (q : RequestByte) (w : Word) (s : State) : (startTransfer q w s).dout = s.dout := rfl

@[simp] theorem startTransfer_reply (q : RequestByte) (w : Word) (s : State) : (startTransfer q w s).reply = s.reply := rfl

@[simp] theorem startTransfer_result (q : RequestByte) (w : Word) (s : State) : (startTransfer q w s).result = s.result := rfl

@[simp] theorem startTransfer_phase (q : RequestByte) (w : Word) (s : State) : (startTransfer q w s).phase = .request := rfl

@[simp] theorem startTransfer_req (q : RequestByte) (w : Word) (s : State) : (startTransfer q w s).req = q := rfl

@[simp] theorem startTransfer_ackraw (q : RequestByte) (w : Word) (s : State) : (startTransfer q w s).ackraw = s.ackraw := rfl

@[simp] theorem startTransfer_dsr (q : RequestByte) (w : Word) (s : State) : (startTransfer q w s).dsr = s.dsr := rfl

@[simp] theorem startTransfer_parrx (q : RequestByte) (w : Word) (s : State) : (startTransfer q w s).parrx = s.parrx := rfl

@[simp] theorem startTransfer_trace (q : RequestByte) (w : Word) (s : State) : (startTransfer q w s).trace = s.trace := rfl

@[simp] theorem startTransfer_wdata (q : RequestByte) (w : Word) (s : State) : (startTransfer q w s).wdata = if requestReads q then s.wdata else w := rfl

@[simp] theorem startTransfer_env (q : RequestByte) (w : Word) (s : State) : (startTransfer q w s).env = s.env := rfl

@[simp] theorem startTransfer_draws (q : RequestByte) (w : Word) (s : State) : (startTransfer q w s).draws = s.draws := rfl

@[simp] theorem startTransfer_callerChecks (q : RequestByte) (w : Word) (s : State) : (startTransfer q w s).callerChecks = s.callerChecks := rfl

@[simp] theorem startTransfer_inbox (q : RequestByte) (w : Word) (s : State) : (startTransfer q w s).inbox = s.inbox := rfl

end Sys2Proof.Machine
end

