-- ==== Sys2Proof/Laws/Link.lean ====
section
/-! SUPPORT. One lemma for each operation that moves bits, saying everything it does: what the block writes, and what
it reads from a released and from a driven line. -/

namespace Sys2Proof.Machine

open Sys2Proof

/-! ### The environment's answers -/

theorem answer_afterSamples (n k : Nat) (s : State) : (s.afterSamples n).answer k = s.answer (n + k) := by
  unfold State.answer State.afterSamples
  simp only [List.getElem?_drop, List.length_drop]
  cases h : s.env[n + k]? with
  | some b => rfl
  | none =>
    have hle : s.env.length ≤ n + k := by simpa using h
    simp only
    congr 1
    omega

theorem answers_succ (first count : Nat) (s : State) :
    s.answers first (count + 1) = s.answer first :: s.answers (first + 1) count := by
  simp only [State.answers, List.range_succ_eq_map, List.map_cons, List.map_map, Nat.add_zero]
  congr 2
  funext k
  show s.answer (first + (k + 1)) = s.answer (first + 1 + k)
  congr 1
  omega

@[simp] theorem answers_length (first count : Nat) (s : State) : (s.answers first count).length = count := by
  simp [State.answers]

theorem answers_afterSamples (n first count : Nat) (s : State) :
    (s.afterSamples n).answers first count = s.answers (n + first) count := by
  simp [State.answers, answer_afterSamples, Nat.add_assoc]

/-- What the environment will answer depends on nothing but its script and the draw counter. -/
theorem answer_congr {s t : State} (henv : s.env = t.env) (hdraws : s.draws = t.draws) (k : Nat) :
    s.answer k = t.answer k := by
  simp [State.answer, henv, hdraws]

theorem answers_congr {s t : State} (henv : s.env = t.env) (hdraws : s.draws = t.draws) (first count : Nat) :
    s.answers first count = t.answers first count := by
  simp [State.answers, answer_congr henv hdraws]

theorem afterSamples_add (m n : Nat) (s : State) : (s.afterSamples m).afterSamples n = s.afterSamples (m + n) := by
  simp only [State.afterSamples, List.drop_drop, List.length_drop]
  congr 1
  omega

/-- A script that begins with `bits` answers with them. -/
theorem answers_of_script (bits rest : List Bit) (s : State) (h : s.env = bits ++ rest) :
    s.answers 0 bits.length = bits := by
  apply List.ext_getElem
  · simp
  · intro k hk hk'
    simp [State.answers, State.answer, h, List.getElem?_append_left hk', List.getElem?_eq_getElem hk']

/-! ### Writing -/

/-- A run of write cycles: the data level ends at the last bit, the clock at 1, and the trace has one write cycle for
each bit (R81, R83). -/
theorem writeBits_eq (bits : List Bit) (s : State) :
    writeBits bits s =
      { s with
        dout := bits.getLastD s.dout
        swclk := if bits = [] then s.swclk else true
        trace := s.trace ++ writeCycles bits } := by
  induction bits generalizing s with
  | nil => simp [writeBits, writeCycles]
  | cons b rest ih =>
    rw [writeBits, ih]
    cases rest <;> simp [writeCycles, writeBit, clk, drive, writeCycle, List.getLastD]

theorem lsbBits_ne_nil {n : Nat} (v : BitVec (n + 1)) : lsbBits v ≠ [] := by
  intro h
  simpa using congrArg List.length h

theorem lsbBits_getLastD {n : Nat} (v : BitVec (n + 1)) (d : Bit) : (lsbBits v).getLastD d = v.getLsbD n := by
  simp [lsbBits, List.range_succ]

/-- A whole value goes out: the data level ends at its most significant bit (R83). -/
theorem writeValue_eq {n : Nat} (v : BitVec (n + 1)) (s : State) :
    writeValue v s =
      { s with dout := v.getLsbD n, swclk := true, trace := s.trace ++ writeCycles (lsbBits v) } := by
  rw [writeValue, writeBits_eq, lsbBits_getLastD]
  simp [lsbBits_ne_nil]

/-! ### Reading -/

theorem dir_cases (s : State) : s.dir = .input ∨ s.dir = .output := by
  cases s.dir <;> simp

/-- A read cycle of the released line: the bit is the environment's next answer and `DOUT` is not touched (R14, R82). -/
theorem readBit_input (s : State) (h : s.dir = .input) :
    readBit s =
      (s.answer 0, { s.afterSamples 1 with swclk := true, trace := s.trace ++ readCycle (s.answer 0) }) := by
  unfold readBit sample pin State.answer State.afterSamples
  simp only [clk_dir, h]
  cases henv : s.env <;> simp [clk, henv, readCycle]

/-- A read cycle of a driven line: the bit is free and is not tied to `DOUT` (R14, U2). -/
theorem readBit_output (s : State) (h : s.dir = .output) :
    readBit s =
      (Config.sampleWhileDriven s.draws,
        { s with
          swclk := true
          draws := s.draws + 1
          trace := s.trace ++ readCycle (Config.sampleWhileDriven s.draws) }) := by
  unfold readBit sample pin
  simp [clk, h, readCycle]

/-- A run of read cycles of the released line (R14, R82). -/
theorem readBits_input (n : Nat) (s : State) (h : s.dir = .input) :
    readBits n s =
      (s.answers 0 n,
        { s.afterSamples n with
          swclk := if n = 0 then s.swclk else true
          trace := s.trace ++ readCycles (s.answers 0 n) }) := by
  induction n generalizing s with
  | zero => simp [readBits, State.answers, State.afterSamples, readCycles]
  | succ n ih =>
    let t : State := { s.afterSamples 1 with swclk := true, trace := s.trace ++ readCycle (s.answer 0) }
    have hans : t.answers 0 n = s.answers 1 n := (answers_congr rfl rfl 0 n).trans (answers_afterSamples 1 0 n s)
    have hread : readBits (n + 1) s = (s.answer 0 :: (readBits n t).1, (readBits n t).2) := by
      rw [readBits, readBit_input s h]
    rw [hread, ih t h, hans, answers_succ]
    ext1
    · rfl
    · ext1 <;> simp [t, State.afterSamples, readCycles]
      omega

/-- A run of read cycles of a driven line: every bit is free (R14, U2). -/
theorem readBits_output (n : Nat) (s : State) (h : s.dir = .output) :
    readBits n s =
      (s.drivenSamples n,
        { s with
          swclk := if n = 0 then s.swclk else true
          draws := s.draws + n
          trace := s.trace ++ readCycles (s.drivenSamples n) }) := by
  induction n generalizing s with
  | zero => simp [readBits, State.drivenSamples, readCycles]
  | succ n ih =>
    let b := Config.sampleWhileDriven s.draws
    let t : State := { s with swclk := true, draws := s.draws + 1, trace := s.trace ++ readCycle b }
    have hbits : s.drivenSamples (n + 1) = b :: t.drivenSamples n := by
      simp only [State.drivenSamples, List.range_succ_eq_map, List.map_cons, List.map_map, Nat.add_zero]
      congr 2
      funext k
      show Config.sampleWhileDriven (s.draws + (k + 1)) = Config.sampleWhileDriven (s.draws + 1 + k)
      congr 1
      omega
    have hread : readBits (n + 1) s = (b :: (readBits n t).1, (readBits n t).2) := by
      rw [readBits, readBit_output s h]
    rw [hread, ih t h, hbits]
    ext1
    · rfl
    · ext1 <;> simp [t, readCycles]
      omega

/-- `READ_BYTE`, the acknowledge bits and the data word of a read (R32, R58, R60, R84). -/
theorem readValue_input (n : Nat) (s : State) (h : s.dir = .input) (hn : n ≠ 0) :
    readValue n s =
      (packLsb n (s.answers 0 n),
        { s.afterSamples n with swclk := true, trace := s.trace ++ readCycles (s.answers 0 n) }) := by
  simp [readValue, readBits_input n s h, hn]

/-- Whatever the direction, a run of read cycles changes the clock, the trace and what has been drawn from the
environment, and nothing else. -/
theorem readBits_shape (n : Nat) (s : State) :
    ∃ bits env draws, bits.length = n ∧
      readBits n s =
        (bits,
          { s with
            swclk := if n = 0 then s.swclk else true
            env := env
            draws := draws
            trace := s.trace ++ readCycles bits }) := by
  rcases dir_cases s with h | h
  · exact ⟨_, _, _, answers_length 0 n s, readBits_input n s h⟩
  · exact ⟨s.drivenSamples n, s.env, _, by simp [State.drivenSamples], readBits_output n s h⟩

/-- A pass of the line reset (R64). -/
theorem lineResetPass_eq (n : Nat) (s : State) :
    lineResetPass n s =
      { s with dout := false, swclk := true, trace := s.trace ++ lineResetPassTrace n } := by
  rw [lineResetPass, writeBits_eq, writeBits_eq]
  simp [lineResetPassTrace, Config.lineResetZeroBits, List.replicate]

end Sys2Proof.Machine
end

