-- ==== Sys2Proof/Laws/Phases.lean ====
section
/-! SUPPORT. One lemma for each phase of a transfer, saying everything it does (R18, R91). -/

namespace Sys2Proof.Machine

open Sys2Proof

theorem requestPhase_eq (s : State) :
    requestPhase s =
      { s with
        dir := .output
        dout := s.req.getLsbD 7
        swclk := true
        phase := .trn1
        trace := s.trace ++ ([.dir .output] ++ writeCycles (lsbBits s.req)) } := by
  rw [requestPhase, writeValue_eq]
  simp [State.enter, setDir]

theorem firstTurnPhase_eq (s : State) :
    firstTurnPhase s =
      { s with
        dir := .input
        swclk := true
        phase := .ack
        trace := s.trace ++ ([.dir .input] ++ turnCycle) } := by
  ext1 <;> simp [firstTurnPhase]

theorem ackPhase_eq (s : State) (h : s.dir = .input) :
    ackPhase s =
      { s.afterSamples 3 with
        swclk := true
        ackraw := s.nextAck
        phase := phaseAfterAck (requestReads s.req) s.nextAck
        trace := s.trace ++ readCycles (lsbBits s.nextAck) } := by
  unfold ackPhase
  rw [show readValue Config.ackBits s = _ from readValue_input 3 s h (by decide)]
  simp [State.nextAck, State.afterSamples, lsbBits_packLsb]

theorem dataReadPhase_eq (s : State) (h : s.dir = .input) :
    dataReadPhase s =
      { s.afterSamples 32 with
        swclk := true
        dsr := packLsb 32 (s.answers 0 32)
        phase := .parRd
        trace := s.trace ++ readCycles (s.answers 0 32) } := by
  unfold dataReadPhase
  rw [show readValue Config.dataBits s = _ from readValue_input 32 s h (by decide)]

theorem parityReadPhase_eq (s : State) (h : s.dir = .input) :
    parityReadPhase s =
      { s.afterSamples 1 with
        swclk := true
        parrx := s.answer 0
        phase := .trn2
        trace := s.trace ++ readCycle (s.answer 0) } := by
  rw [parityReadPhase, readBit_input s h]

theorem secondTurnPhase_eq (s : State) :
    secondTurnPhase s =
      { s with
        swclk := true
        phase := if requestReads s.req then .idleBit else .dataWr
        trace := s.trace ++ turnCycle } := by
  ext1 <;> simp [secondTurnPhase]

theorem dataWritePhase_eq (s : State) :
    dataWritePhase s =
      { s with
        dir := .output
        dout := s.wdata.getLsbD 31
        swclk := true
        dsr := s.wdata
        phase := .parWr
        trace := s.trace ++ ([.dir .output] ++ writeCycles (lsbBits s.wdata)) } := by
  rw [dataWritePhase, writeValue_eq]
  simp [State.enter, setDir]

theorem parityWritePhase_eq (s : State) :
    parityWritePhase s =
      { s with
        dout := par32 s.dsr
        swclk := true
        phase := .idleBit
        trace := s.trace ++ writeCycle (par32 s.dsr) } := by
  ext1 <;> simp [parityWritePhase]

theorem idleBitPhase_eq (s : State) :
    idleBitPhase s =
      { s with
        dir := if dataPhaseDrove s then s.dir else .output
        dout := Config.idleValue
        swclk := true
        phase := .idle
        reply := .transferResult
        result := transferOutcome (requestReads s.req) s.ackraw s.dsr s.parrx
        req := 0
        ackraw := 0
        dsr := 0
        parrx := false
        wdata := 0
        trace :=
          s.trace ++ ((if dataPhaseDrove s then [] else [.dir .output]) ++ writeCycle Config.idleValue) } := by
  cases h : dataPhaseDrove s <;> ext1 <;> simp [idleBitPhase, h, Config.idleBits, writeBits]

/-- With no transfer under way there is nothing to resume. -/
theorem runPhases_idle (n : Nat) (s : State) (h : s.phase = .idle) : runPhases n s = s := by
  induction n with
  | zero => rfl
  | succ n ih => rw [runPhases, show phaseStep s = s by simp [phaseStep, h], ih]

theorem resume_idle (s : State) (h : s.phase = .idle) : resume s = s := runPhases_idle _ s h

/-- Once the transfer is at its end, further phases do nothing. -/
theorem runPhases_add (m n : Nat) (s : State) : runPhases (m + n) s = runPhases n (runPhases m s) := by
  induction m generalizing s with
  | zero => simp [runPhases]
  | succ m ih => rw [Nat.succ_add, runPhases, runPhases, ih]

end Sys2Proof.Machine
end

