-- ==== Sys2Proof/Laws/Outcomes.lean ====
section
/-! SUPPORT. What each operation that can stop answers, and what a step can do: one lemma for each, to cite instead of
unfolding it. -/

namespace Sys2Proof.Machine

open Sys2Proof

/-- A bit or byte operation runs when the direction is the one it needs, or is not looked at (R163). -/
theorem requireDir_next {need : Dir} {f : Fault} {s t : State} (h : s.callerChecks = false ∨ s.dir = need) :
    requireDir need f s t = .next t := by
  rcases h with h | h <;> simp [requireDir, h]

/-- A bit or byte operation that ran did what it does, and its direction was accepted. -/
theorem requireDir_eq_next {need : Dir} {f : Fault} {s t u : State} (h : requireDir need f s t = .next u) :
    u = t ∧ (s.callerChecks = false ∨ s.dir = need) := by
  unfold requireDir at h
  split at h
  · cases h
  · rename_i hn
    refine ⟨(Host.Outcome.next.inj h).symm, ?_⟩
    cases hc : s.callerChecks
    · exact .inl rfl
    · exact .inr (by simpa [hc] using hn)

/-- `TRANSFER` runs when its request byte is one of the sixteen, or is not looked at (R69). -/
theorem requireRequest_next {req : RequestByte} {s t : State} (h : s.callerChecks = false ∨ isRequest req = true) :
    requireRequest req s t = .next t := by
  rcases h with h | h <;> simp [requireRequest, h]

/-- A `TRANSFER` that ran did what it does. -/
theorem requireRequest_eq_next {req : RequestByte} {s t u : State} (h : requireRequest req s t = .next u) :
    u = t ∧ (s.callerChecks = false ∨ isRequest req = true) := by
  unfold requireRequest at h
  split at h
  · cases h
  · rename_i hn
    refine ⟨(Host.Outcome.next.inj h).symm, ?_⟩
    cases hc : s.callerChecks
    · exact .inl rfl
    · exact .inr (by simpa [hc] using hn)

/-- Whatever the direction, a read cycle changes the clock, the trace and what has been drawn from the environment, and
nothing else (R82). -/
theorem readBit_shape (s : State) :
    ∃ bit env draws,
      readBit s =
        (bit, { s with swclk := true, env := env, draws := draws, trace := s.trace ++ readCycle bit }) := by
  rcases dir_cases s with h | h
  · exact ⟨_, _, _, readBit_input s h⟩
  · exact ⟨_, s.env, _, readBit_output s h⟩

/-- A step that answers a next state either found nothing presented and finished the transfer under way, or took the
word at the head of the inbox, which decodes and is accepted, and ran it. -/
theorem step_eq_next {s t : State} (h : step s = .next t) :
    (s.inbox = [] ∧ t = resume s) ∨
      ∃ f rest i, s.inbox = f :: rest ∧ decode f = .ok i ∧ accepts f s = true ∧
        exec i { s with inbox := rest } = .next t := by
  unfold step at h
  split at h
  · rename_i hin
    exact .inl ⟨hin, (Host.Outcome.next.inj h).symm⟩
  · rename_i f rest hin
    split at h
    · cases h
    · rename_i i hd
      split at h
      · rename_i ha
        exact .inr ⟨f, rest, i, hin, hd, ha, h⟩
      · cases h

end Sys2Proof.Machine
end

