-- ==== Sys2Proof/Laws/PerInstr.lean ====
section
/-! SUPPORT. Statements made for every constructor of `Instr`. The family `TableRow`: the word the encoder makes fits
the instruction's row of the opcode table, whose format, mask and match value are written out here from the table. -/

namespace Sys2Proof.Laws

open Sys2Proof

/-- The three word formats of the opcode table. -/
inductive Format where
  | cmd44
  | req8
  | ack3
deriving DecidableEq, Repr

/-- A row of the opcode table: the word's format, its mask and the value of the masked bits. -/
structure Row where
  format : Format
  mask : Nat
  value : Nat
deriving DecidableEq, Repr

/-- The word stands in the row's format and its masked bits are the row's. -/
def Row.Fits (r : Row) (f : Frame) : Prop :=
  match f with
  | .command w => r.format = .cmd44 ∧ w &&& BitVec.ofNat 44 r.mask = BitVec.ofNat 44 r.value
  | .request h _ => r.format = .req8 ∧ h &&& BitVec.ofNat 8 r.mask = BitVec.ofNat 8 r.value
  | .ack p => r.format = .ack3 ∧ p &&& BitVec.ofNat 3 r.mask = BitVec.ofNat 3 r.value

/-- A CMD44 row: the four code bits are fixed. -/
def commandRow (value : Nat) : Row := { format := .cmd44, mask := 0xF0000000000, value := value }

/-- A REQ8 row: all eight bits are fixed. -/
def requestRow (value : Nat) : Row := { format := .req8, mask := 0xFF, value := value }

/-- An ACK3 row: all three bits are fixed. -/
def ackRow (value : Nat) : Row := { format := .ack3, mask := 0x7, value := value }

/-- The row of the opcode table an instruction has. -/
def rowOf (i : Instr) : Row :=
  match i with
  | .setDir _ => commandRow 0x00000000000
  | .writeBit _ => commandRow 0x10000000000
  | .readBit => commandRow 0x20000000000
  | .writeByte _ => commandRow 0x30000000000
  | .readByte => commandRow 0x40000000000
  | .lineReset => commandRow 0x50000000000
  | .transfer _ _ => commandRow 0x60000000000
  | .formatRequest _ _ _ => commandRow 0x70000000000
  | .dpRead _ => commandRow 0x80000000000
  | .dpWrite _ _ => commandRow 0x90000000000
  | .apRead _ => commandRow 0xA0000000000
  | .apWrite _ _ => commandRow 0xB0000000000
  | .reservedC => commandRow 0xC0000000000
  | .reservedD => commandRow 0xD0000000000
  | .reservedE => commandRow 0xE0000000000
  | .reservedF => commandRow 0xF0000000000
  | .reqDpRd0 => requestRow 0xA5
  | .reqDpRd4 => requestRow 0x8D
  | .reqDpRd8 => requestRow 0x95
  | .reqDpRdC => requestRow 0xBD
  | .reqDpWr0 _ => requestRow 0x81
  | .reqDpWr4 _ => requestRow 0xA9
  | .reqDpWr8 _ => requestRow 0xB1
  | .reqDpWrC _ => requestRow 0x99
  | .reqApRd0 => requestRow 0x87
  | .reqApRd4 => requestRow 0xAF
  | .reqApRd8 => requestRow 0xB7
  | .reqApRdC => requestRow 0x9F
  | .reqApWr0 _ => requestRow 0xA3
  | .reqApWr4 _ => requestRow 0x8B
  | .reqApWr8 _ => requestRow 0x93
  | .reqApWrC _ => requestRow 0xBB
  | .ackOk => ackRow 0x1
  | .ackWait => ackRow 0x2
  | .ackFault => ackRow 0x4
  | .ackInvalid0 => ackRow 0x0
  | .ackInvalid3 => ackRow 0x3
  | .ackInvalid5 => ackRow 0x5
  | .ackInvalid6 => ackRow 0x6
  | .ackInvalid7 => ackRow 0x7

/-- Of a command word the mask of the CMD44 rows leaves the code (R66). -/
theorem commandWord_masked (op : BitVec 4) (a : Byte) (w : Word) :
    commandWord op a w &&& 0xF0000000000#44 = commandWord op 0 0 := by
  have mask : ∀ k : Fin 44, (0xF0000000000#44).getLsbD k = decide (40 ≤ k.val) := by decide
  apply BitVec.eq_of_getLsbD_eq
  intro k hk
  rw [BitVec.getLsbD_and, commandWord_getLsbD, commandWord_getLsbD, mask ⟨k, hk⟩]
  by_cases h32 : k < 32
  · simp [h32, show ¬ 40 ≤ k by omega]
  · by_cases h40 : k < 40
    · simp [h32, h40, show ¬ 40 ≤ k by omega]
    · simp [h32, h40, show 40 ≤ k by omega]

/-- A command word fits the row of its code. -/
theorem commandRow_fits {op : BitVec 4} {value : Nat} (h : commandWord op 0 0 = BitVec.ofNat 44 value) (a : Byte)
    (w : Word) : (commandRow value).Fits (.command (commandWord op a w)) :=
  ⟨rfl, (commandWord_masked op a w).trans h⟩

/-- A header fits the row of its value, whatever word goes with it. -/
theorem requestRow_fits {header : RequestByte} {value : Nat} (h : header &&& 0xFF#8 = BitVec.ofNat 8 value) (wdata : Word) :
    (requestRow value).Fits (.request header wdata) :=
  ⟨rfl, h⟩

end Sys2Proof.Laws

namespace Sys2Proof.Laws.TableRow

open Sys2Proof Sys2Proof.Laws

/-- The encoder's word for `i` fits the row of the opcode table that is `i`'s. -/
def Statement (i : Instr) : Prop := (rowOf i).Fits (encode i)

theorem setDir (d : Dir) : Statement (.setDir d) := commandRow_fits (by decide) _ _
theorem writeBit (b : Bit) : Statement (.writeBit b) := commandRow_fits (by decide) _ _
theorem readBit : Statement .readBit := commandRow_fits (by decide) _ _
theorem writeByte (v : Byte) : Statement (.writeByte v) := commandRow_fits (by decide) _ _
theorem readByte : Statement .readByte := commandRow_fits (by decide) _ _
theorem lineReset : Statement .lineReset := commandRow_fits (by decide) _ _
theorem transfer (req : RequestByte) (wdata : Word) : Statement (.transfer req wdata) := commandRow_fits (by decide) _ _
theorem formatRequest (port : Port) (rnw : Access) (addr : Byte) : Statement (.formatRequest port rnw addr) := commandRow_fits (by decide) _ _
theorem dpRead (addr : Byte) : Statement (.dpRead addr) := commandRow_fits (by decide) _ _
theorem dpWrite (addr : Byte) (wdata : Word) : Statement (.dpWrite addr wdata) := commandRow_fits (by decide) _ _
theorem apRead (addr : Byte) : Statement (.apRead addr) := commandRow_fits (by decide) _ _
theorem apWrite (addr : Byte) (wdata : Word) : Statement (.apWrite addr wdata) := commandRow_fits (by decide) _ _
theorem reservedC : Statement .reservedC := commandRow_fits (by decide) _ _
theorem reservedD : Statement .reservedD := commandRow_fits (by decide) _ _
theorem reservedE : Statement .reservedE := commandRow_fits (by decide) _ _
theorem reservedF : Statement .reservedF := commandRow_fits (by decide) _ _
theorem reqDpRd0 : Statement .reqDpRd0 := requestRow_fits (by decide) _
theorem reqDpRd4 : Statement .reqDpRd4 := requestRow_fits (by decide) _
theorem reqDpRd8 : Statement .reqDpRd8 := requestRow_fits (by decide) _
theorem reqDpRdC : Statement .reqDpRdC := requestRow_fits (by decide) _
theorem reqDpWr0 (wdata : Word) : Statement (.reqDpWr0 wdata) := requestRow_fits (by decide) _
theorem reqDpWr4 (wdata : Word) : Statement (.reqDpWr4 wdata) := requestRow_fits (by decide) _
theorem reqDpWr8 (wdata : Word) : Statement (.reqDpWr8 wdata) := requestRow_fits (by decide) _
theorem reqDpWrC (wdata : Word) : Statement (.reqDpWrC wdata) := requestRow_fits (by decide) _
theorem reqApRd0 : Statement .reqApRd0 := requestRow_fits (by decide) _
theorem reqApRd4 : Statement .reqApRd4 := requestRow_fits (by decide) _
theorem reqApRd8 : Statement .reqApRd8 := requestRow_fits (by decide) _
theorem reqApRdC : Statement .reqApRdC := requestRow_fits (by decide) _
theorem reqApWr0 (wdata : Word) : Statement (.reqApWr0 wdata) := requestRow_fits (by decide) _
theorem reqApWr4 (wdata : Word) : Statement (.reqApWr4 wdata) := requestRow_fits (by decide) _
theorem reqApWr8 (wdata : Word) : Statement (.reqApWr8 wdata) := requestRow_fits (by decide) _
theorem reqApWrC (wdata : Word) : Statement (.reqApWrC wdata) := requestRow_fits (by decide) _
theorem ackOk : Statement .ackOk := ⟨rfl, rfl⟩
theorem ackWait : Statement .ackWait := ⟨rfl, rfl⟩
theorem ackFault : Statement .ackFault := ⟨rfl, rfl⟩
theorem ackInvalid0 : Statement .ackInvalid0 := ⟨rfl, rfl⟩
theorem ackInvalid3 : Statement .ackInvalid3 := ⟨rfl, rfl⟩
theorem ackInvalid5 : Statement .ackInvalid5 := ⟨rfl, rfl⟩
theorem ackInvalid6 : Statement .ackInvalid6 := ⟨rfl, rfl⟩
theorem ackInvalid7 : Statement .ackInvalid7 := ⟨rfl, rfl⟩

end Sys2Proof.Laws.TableRow
end

