-- ==== Sys2Proof/Tests/Slice0.lean ====
section
/-! SUPPORT. Tests on fixed values. Every expected result is written out from the spec: the vectors V, BL, LR, T and RA
and the programs P of 95_test_vectors.md, and the encodings of R57, R58 and R66. Then, for each obligation with
hypotheses, a witness that meets them. -/

namespace Sys2Proof.Tests

open Sys2Proof Sys2Proof.Machine Sys2Proof.Safety Sys2Proof.Claims

/-! ### Helpers -/

/-- The `n` bits of a wire string, first bit on the left, as the vectors write it. -/
def wire (n v : Nat) : List Bit := (List.range n).map (fun k => v.testBit (n - 1 - k))

/-- `W:<bits>` of the vectors. -/
def W (n v : Nat) : List Event := (wire n v).flatMap (fun b => [.data b, .clk false, .clk true])

/-- `R:<bits>` of the vectors. -/
def R (n v : Nat) : List Event := (wire n v).flatMap (fun b => [.clk false, .clk true, .sample b])

/-- `T` of the vectors. -/
def T : List Event := [.clk false, .clk true]

/-- `>O` of the vectors. -/
def toOutput : List Event := [.dir .output]

/-- `>I` of the vectors. -/
def toInput : List Event := [.dir .input]

/-- The reset state with a script of environment bits. -/
def linked (env : List Bit) : State := { State.reset with env := env }

/-- The reset state driving its line. -/
def driving : State := { State.reset with dir := .output }

/-- The reset state with the caller's mistakes checked. -/
def checked : State := { State.reset with callerChecks := true }

/-- The reset state in the acknowledge phase of a transfer of `req`. -/
def acknowledging (req : Byte) (wdata : Word) (env : List Bit) : State :=
  { State.reset with phase := .ack, req := req, wdata := wdata, env := env }

/-- The next state of an outcome. -/
def nextOf (o : Host.Outcome State Fault Refusal) : Option State :=
  match o with
  | .next t => some t
  | .fault _ => none
  | .refused _ => none

/-- The fault of an outcome. -/
def faultOf (o : Host.Outcome State Fault Refusal) : Option Fault :=
  match o with
  | .next _ => none
  | .fault f => some f
  | .refused _ => none

/-- The refusal of an outcome. -/
def refusalOf (o : Host.Outcome State Fault Refusal) : Option Refusal :=
  match o with
  | .next _ => none
  | .fault _ => none
  | .refused r => some r

/-- The trace and the response of an outcome, the two things that can be observed (R9). -/
def seen (o : Host.Outcome State Fault Refusal) : Option (List Event × Option Response) :=
  (nextOf o).map (fun t => (t.trace, t.response))

/-- The levels a trace drives, in order. -/
def driven (tr : List Event) : List Bit :=
  tr.flatMap (fun e => match e with
    | .data b => [b]
    | .dir _ | .clk _ | .sample _ => [])

/-- The levels driven, the answers of the environment that are left, and the response of an outcome. -/
def ended (o : Host.Outcome State Fault Refusal) : Option (List Bit × List Bit × Option Response) :=
  (nextOf o).map (fun t => (driven t.trace, t.env, t.response))

/-- What a transaction that writes nothing drives: its request, bit 0 first, and the idle bit. -/
def asked (req : Byte) : List Bit := lsbBits req ++ [false]

/-- What a write drives: its request, the word and its parity `p`, and the idle bit. -/
def wrote (req : Byte) (w : Word) (p : Bit) : List Bit := lsbBits req ++ lsbBits w ++ [p, false]

/-- A response with a Transaction Result. -/
def result (ack : AckClass) (data : Option Word) (parityOk : Bool) : Option Response :=
  some (.result { ack := ack, data := data, parityOk := parityOk })

/-- `0x4BA00477` in wire order (V26). -/
def idcodeWire : Nat := 0b11101110001000000000010111010010

/-- `0x12345678` in wire order (V28). -/
def wordWire : Nat := 0b00011110011010100010110001001000

/-! ### Well-formedness: the one check, an ill-formed term and its neighbours -/

theorem test_format_request_stray_low_bits_refused : (Instr.formatRequest .dp .read 0x3#8).wellFormed = false := by
  decide

theorem test_format_request_stray_high_bit_refused : (Instr.formatRequest .ap .write 0x1C#8).wellFormed = false := by
  decide

theorem test_format_request_aligned_accepted :
    [0x0#8, 0x4#8, 0x8#8, 0xC#8].all (fun a => (Instr.formatRequest .ap .read a).wellFormed) = true := by decide

/-! ### Decoding: every constructor, by a word written out from R66, R57, R58 -/

/-- `op` in bits 43 to 40, `arg8` in 39 to 32, `wdata` in 31 to 0 (R66); the words of P1 to P6 among them. -/
theorem test_decode_commands :
    decodeTableWord 48 0b00000000000100000000000000000000000000000000 = some (.setDir .output) ∧
    decodeTableWord 48 0x00000000000 = some (.setDir .input) ∧
    decodeTableWord 48 0x10000000000 = some (.writeBit false) ∧
    decodeTableWord 48 0x10100000000 = some (.writeBit true) ∧
    decodeTableWord 48 0x20000000000 = some .readBit ∧
    decodeTableWord 48 0x3A500000000 = some (.writeByte 0xA5#8) ∧
    decodeTableWord 48 0x40000000000 = some .readByte ∧
    decodeTableWord 48 0x50000000000 = some .lineReset ∧
    decodeTableWord 48 0x6A950000000 = some (.transfer 0xA9#8 0x50000000#32) := by decide

theorem test_decode_register_commands :
    decodeTableWord 48 0x70600000000 = some (.formatRequest .dp .read 0x4#8) ∧
    decodeTableWord 48 0x70900000000 = some (.formatRequest .ap .write 0x8#8) ∧
    decodeTableWord 48 0x80000000000 = some (.dpRead 0x0#8) ∧
    decodeTableWord 48 0x90450000000 = some (.dpWrite 0x4#8 0x50000000#32) ∧
    decodeTableWord 48 0xA0C00000000 = some (.apRead 0xC#8) ∧
    decodeTableWord 48 0xB0C12345678 = some (.apWrite 0xC#8 0x12345678#32) := by decide

theorem test_decode_reserved :
    decodeTableWord 48 0xC0000000000 = some .reservedC ∧ decodeTableWord 48 0xD0000000001 = some .reservedD ∧
    decodeTableWord 48 0xE0100000000 = some .reservedE ∧ decodeTableWord 48 0xFFFFFFFFFFF = some .reservedF := by
  decide

theorem test_decode_requests :
    decodeTableWord 8 0b10100101 = some .reqDpRd0 ∧ decodeTableWord 8 0b10001101 = some .reqDpRd4 ∧
    decodeTableWord 8 0b10010101 = some .reqDpRd8 ∧ decodeTableWord 8 0b10111101 = some .reqDpRdC ∧
    decodeTableWord 8 0b10000001 = some (.reqDpWr0 0) ∧ decodeTableWord 8 0b10101001 = some (.reqDpWr4 0) ∧
    decodeTableWord 8 0b10110001 = some (.reqDpWr8 0) ∧ decodeTableWord 8 0b10011001 = some (.reqDpWrC 0) ∧
    decodeTableWord 8 0b10000111 = some .reqApRd0 ∧ decodeTableWord 8 0b10101111 = some .reqApRd4 ∧
    decodeTableWord 8 0b10110111 = some .reqApRd8 ∧ decodeTableWord 8 0b10011111 = some .reqApRdC ∧
    decodeTableWord 8 0b10100011 = some (.reqApWr0 0) ∧ decodeTableWord 8 0b10001011 = some (.reqApWr4 0) ∧
    decodeTableWord 8 0b10010011 = some (.reqApWr8 0) ∧ decodeTableWord 8 0b10111011 = some (.reqApWrC 0) := by
  decide

theorem test_decode_acks :
    decodeTableWord 8 0b001 = some .ackOk ∧ decodeTableWord 8 0b010 = some .ackWait ∧
    decodeTableWord 8 0b100 = some .ackFault ∧ decodeTableWord 8 0b000 = some .ackInvalid0 ∧
    decodeTableWord 8 0b011 = some .ackInvalid3 ∧ decodeTableWord 8 0b101 = some .ackInvalid5 ∧
    decodeTableWord 8 0b110 = some .ackInvalid6 ∧ decodeTableWord 8 0b111 = some .ackInvalid7 := by decide

/-- `0x85` is what a parity that covered `start` would give for a DP read of `0x0` (the last false variant). -/
theorem test_decode_malformed_request :
    decode (.request 0x85#8 0) = .error (.malformedRequest 0x85#8) ∧ decodeTableWord 8 0x85 = none := by
  constructor <;> rfl

/-! ### Parity, classes, bit order -/

/-- V20 to V32. -/
theorem test_data_parity :
    [0x00000000#32, 0x00000003#32, 0xFFFFFFFF#32, 0xA5A5A5A5#32, 0x50000000#32, 0x00000012#32, 0xDEADBEEF#32].all
      (fun v => par32 v == false) = true ∧
    [0x00000001#32, 0x80000000#32, 0x7FFFFFFF#32, 0x4BA00477#32, 0x08000000#32, 0x12345678#32].all
      (fun v => par32 v == true) = true := by decide

/-- V26 and V28: bit 0 first. -/
theorem test_wire_order :
    lsbBits Config.exampleIdcode = wire 32 idcodeWire ∧ lsbBits 0x12345678#32 = wire 32 wordWire := by decide

/-- V33 to V40. -/
theorem test_ack_classes :
    [0b100, 0b010, 0b001, 0b000, 0b110, 0b101, 0b011, 0b111].map (fun v => ackClass (packLsb 3 (wire 3 v))) =
      [.ok, .wait, .fault, .protocolError, .protocolError, .protocolError, .protocolError, .protocolError] := by
  decide

/-! ### Bit-Link -/

/-- BL1: the pin is driven 1 afterwards. -/
theorem test_set_dir_output :
    seen (exec (.setDir .output) State.reset) = some (toOutput, some .nothing) ∧
    (nextOf (exec (.setDir .output) State.reset)).bind State.drivenLevel = some true := by decide

/-- BL11: the event is appended though `DIR` is `Output` already. -/
theorem test_set_dir_again : seen (exec (.setDir .output) driving) = some (toOutput, some .nothing) := by decide

/-- BL2. -/
theorem test_write_bit :
    seen (exec (.writeBit false) driving) = some ([.data false, .clk false, .clk true], some .nothing) ∧
    (nextOf (exec (.writeBit false) driving)).map (fun t => (t.dout, t.swclk)) = some (false, true) := by decide

/-- BL12, the hardware and the model treatment: the events with nothing driven, and the fault. -/
theorem test_write_bit_released :
    seen (exec (.writeBit true) State.reset) = some ([.data true, .clk false, .clk true], some .nothing) ∧
    (nextOf (exec (.writeBit true) State.reset)).bind State.drivenLevel = none ∧
    faultOf (exec (.writeBit true) checked) = some .writeWhileInput := by decide

/-- BL7. -/
theorem test_read_bit :
    seen (exec .readBit (linked [true])) = some ([.clk false, .clk true, .sample true], some (.bit true)) ∧
    (nextOf (exec .readBit (linked [true]))).map (fun t => (t.dout, t.env)) = some (true, []) := by decide

/-- BL13, the model treatment; the hardware reads an unspecified bit and goes on. -/
theorem test_read_bit_driven :
    faultOf (exec .readBit { driving with callerChecks := true }) = some .readWhileOutput ∧
    (nextOf (exec .readBit driving)).map (fun t => cycleCount t.trace) = some 1 := by decide

/-- BL6: bit 7 goes last. -/
theorem test_write_byte :
    seen (exec (.writeByte 0x80#8) driving) = some (W 8 0b00000001, some .nothing) ∧
    (nextOf (exec (.writeByte 0x80#8) driving)).map State.dout = some true := by decide

/-- BL5, and BL12 for a byte. -/
theorem test_write_byte_zero :
    seen (exec (.writeByte 0x00#8) driving) = some (W 8 0, some .nothing) ∧
    (nextOf (exec (.writeByte 0x00#8) driving)).map State.dout = some false ∧
    faultOf (exec (.writeByte 0x00#8) checked) = some .writeWhileInput := by decide

/-- BL9: the last bit received is bit 7. -/
theorem test_read_byte :
    seen (exec .readByte (linked (wire 8 0b00000001))) = some (R 8 0b00000001, some (.byte 0x80#8)) := by decide

/-- BL10, and BL13 for a byte. -/
theorem test_read_byte_ones :
    seen (exec .readByte (linked (wire 8 0xFF))) = some (R 8 0xFF, some (.byte 0xFF#8)) ∧
    faultOf (exec .readByte { driving with callerChecks := true }) = some .readWhileOutput := by decide

/-! ### Line reset -/

/-- LR1, with the 56 high cycles of the vectors. -/
theorem test_line_reset_56 :
    pinsOf (lineReset 56 State.reset) = { dir := .output, swclk := true, dout := false } ∧
    (lineReset 56 State.reset).response = some .success := by decide +kernel

/-- LR3: the fewest cycles. -/
theorem test_line_reset_50 :
    cycleCount (lineReset 50 driving).trace = 116 ∧
    pinsOf (lineReset 50 driving) = { dir := .output, swclk := true, dout := false } := by decide +kernel

/-! ### Transfers -/

/-- T13: a read, and `wdata` ignored. -/
theorem test_transfer_read :
    seen (exec (.transfer 0x9F#8 0xFFFFFFFF#32) (linked (wire 3 0b100 ++ wire 32 0 ++ [false]))) =
      some
        (toOutput ++ W 8 0b11111001 ++ toInput ++ T ++ R 3 0b100 ++ R 32 0 ++ R 1 0 ++ T ++ toOutput ++ W 1 0,
         result .ok (some 0) true) := by decide +kernel

/-- T12: a write of one bit, parity 1; and U3, a malformed request with the caller checked. -/
theorem test_transfer_write :
    seen (exec (.transfer 0xBB#8 0x00000001#32) (linked (wire 3 0b100))) =
      some
        (toOutput ++ W 8 0b11011101 ++ toInput ++ T ++ R 3 0b100 ++ T ++ toOutput ++ W 32 0x80000000 ++ W 1 1 ++
           W 1 0,
         result .ok none true) ∧
    refusalOf (exec (.transfer 0x85#8 0) checked) = some (.malformedRequest 0x85#8) := by decide +kernel

/-! ### The formatter and the register operations -/

/-- V14, V6. -/
theorem test_format_request :
    seen (exec (.formatRequest .ap .write 0x4#8) State.reset) = some ([], some (.byte 0x8B#8)) ∧
    seen (exec (.formatRequest .dp .write 0x4#8) State.reset) = some ([], some (.byte 0xA9#8)) := by decide

/-- V18, V19: stray address bits. -/
theorem test_format_request_stray_bits :
    seen (exec (.formatRequest .dp .read 0x1C#8) State.reset) = some ([], some (.byte 0xBD#8)) ∧
    seen (exec (.formatRequest .ap .write 0x0F#8) State.reset) = some ([], some (.byte 0xBB#8)) := by decide

/-- RA1, T1: the request byte and the response. -/
theorem test_dp_read :
    ended (exec (.dpRead 0x0#8) (linked (wire 3 0b100 ++ wire 32 idcodeWire ++ [true]))) =
      some (asked 0xA5#8, [], result .ok (some 0x4BA00477#32) true) := by decide +kernel

/-- P5, T2: the parity is wrong and the word is not available. -/
theorem test_dp_read_parity :
    ended (exec (.dpRead 0x0#8) (linked (wire 3 0b100 ++ wire 32 idcodeWire ++ [false]))) =
      some (asked 0xA5#8, [], result .protocolError none false) := by decide +kernel

/-- RA2, T7: the request byte, three bits asked of the environment, and the response. -/
theorem test_dp_write :
    ended (exec (.dpWrite 0x4#8 0x50000000#32) (linked (wire 3 0b100 ++ [true]))) =
      some (wrote 0xA9#8 0x50000000#32 false, [true], result .ok none true) := by decide +kernel

/-- P4 step 1, T3: FAULT, no data phase, one idle bit. -/
theorem test_dp_write_fault :
    seen (exec (.dpWrite 0x4#8 0x50000000#32) (linked (wire 3 0b001))) =
      some
        (toOutput ++ W 8 0b10010101 ++ toInput ++ T ++ R 3 0b001 ++ toOutput ++ W 1 0, result .fault none true) := by
  decide +kernel

/-- RA3, T6. -/
theorem test_ap_write :
    ended (exec (.apWrite 0x4#8 0x08000000#32) (linked (wire 3 0b100 ++ [true]))) =
      some (wrote 0x8B#8 0x08000000#32 true, [true], result .ok none true) := by decide +kernel

/-- The last word of P2 has gone out when the transfer ends. -/
theorem test_ap_write_word :
    (nextOf (exec (.apWrite 0xC#8 0x12345678#32) (linked (wire 3 0b100)))).map (fun t => (driven t.trace, t.dout)) =
      some (wrote 0xBB#8 0x12345678#32 true, false) := by decide +kernel

/-- RA8: the first word, `0xDEADBEEF`, is never returned. -/
theorem test_ap_read :
    ended
        (exec (.apRead 0xC#8)
          (linked
            (wire 3 0b100 ++ wire 32 0b11110111011111011011010101111011 ++ [false] ++ wire 3 0b100 ++
              wire 32 wordWire ++ [true]))) =
      some (asked 0x9F#8 ++ asked 0xBD#8, [], result .ok (some 0x12345678#32) true) := by decide +kernel

/-- RA6, RA7: the second acknowledge fails; the first data phase fails and there is no second step. -/
theorem test_ap_read_failures :
    ended (exec (.apRead 0xC#8) (linked (wire 3 0b100 ++ wire 32 0 ++ [false] ++ wire 3 0b001))) =
      some (asked 0x9F#8 ++ asked 0xBD#8, [], result .fault none true) ∧
    ended (exec (.apRead 0xC#8) (linked (wire 3 0b100 ++ wire 32 0b11110111011111011011010101111011 ++ [true]))) =
      some (asked 0x9F#8, [], result .protocolError none false) := by decide +kernel

/-! ### Reserved codes, request rows, acknowledge rows -/

theorem test_reserved_refused :
    refusalOf (exec .reservedC State.reset) = some (.reservedCommand 0xC#4) ∧
    refusalOf (exec .reservedD State.reset) = some (.reservedCommand 0xD#4) ∧
    refusalOf (exec .reservedE State.reset) = some (.reservedCommand 0xE#4) ∧
    refusalOf (exec .reservedF State.reset) = some (.reservedCommand 0xF#4) := by decide

/-- Each read row sends its header of R57 and returns the word on the line. -/
theorem test_read_rows :
    [Instr.reqDpRd0, .reqDpRd4, .reqDpRd8, .reqDpRdC, .reqApRd0, .reqApRd4, .reqApRd8, .reqApRdC].map
        (fun i => ended (exec i (linked (wire 3 0b100 ++ wire 32 wordWire ++ [true])))) =
      [0xA5#8, 0x8D#8, 0x95#8, 0xBD#8, 0x87#8, 0xAF#8, 0xB7#8, 0x9F#8].map
        (fun h => some (asked h, [], result .ok (some 0x12345678#32) true)) := by decide +kernel

/-- Each write row sends its header of R57 and shifts its word out. -/
theorem test_write_rows :
    [Instr.reqDpWr0, .reqDpWr4, .reqDpWr8, .reqDpWrC, .reqApWr0, .reqApWr4, .reqApWr8, .reqApWrC].map
        (fun i =>
          (nextOf (exec (i 0x12345678#32) (linked (wire 3 0b100)))).map (fun t => (driven t.trace, t.response))) =
      [0x81#8, 0xA9#8, 0xB1#8, 0x99#8, 0xA3#8, 0x8B#8, 0x93#8, 0xBB#8].map
        (fun h => some (wrote h 0x12345678#32 true, result .ok none true)) := by decide +kernel

/-- OK and WAIT in the acknowledge phase of a write (T7, T4 from there on). -/
theorem test_ack_ok_and_wait :
    ended (exec .ackOk (acknowledging 0xA9#8 0x50000000#32 [])) =
      some (lsbBits 0x50000000#32 ++ [false, false], [], result .ok none true) ∧
    seen (exec .ackWait (acknowledging 0xA9#8 0x50000000#32 [])) =
      some (R 3 0b010 ++ toOutput ++ W 1 0, result .wait none true) := by decide +kernel

/-- FAULT and the five other patterns in the acknowledge phase of a read: no data phase (V35 to V40, T5 to T5c). -/
theorem test_ack_failures :
    [Instr.ackFault, .ackInvalid0, .ackInvalid3, .ackInvalid5, .ackInvalid6, .ackInvalid7].map
        (fun i => seen (exec i (acknowledging 0xA5#8 0 []))) =
      [(0b001, AckClass.fault), (0b000, .protocolError), (0b110, .protocolError), (0b101, .protocolError),
       (0b011, .protocolError), (0b111, .protocolError)].map
        (fun e => some (R 3 e.1 ++ toOutput ++ W 1 0, result e.2 none true)) := by decide +kernel

/-! ### Steps -/

/-- The word placed by `withFetchWord` is the one the next step runs: a command, a header, a pattern. -/
theorem test_step_runs_the_placed_word :
    seen (step (State.reset.withFetchWord 48 0x00100000000)) = some (toOutput, some .nothing) ∧
    ended (step ((linked (wire 3 0b010)).withFetchWord 8 0x9F)) = some (asked 0x9F#8, [], result .wait none true) ∧
    seen (step (State.reset.withFetchWord 8 0b100)) =
      some (R 3 0b001 ++ toOutput ++ W 1 0, result .fault none true) := by decide +kernel

/-- U7, U6, R169: an operation in the middle of a transfer, a reserved code, nothing presented. -/
theorem test_step_stops :
    refusalOf (step { acknowledging 0xA5#8 0 [] with inbox := [.command 0x50000000000#44] }) =
      some .operationInFlight ∧
    refusalOf (step { State.reset with inbox := [.command 0xE0000000000#44] }) = some (.reservedCommand 0xE#4) ∧
    nextOf (step State.reset) = some State.reset := by decide +kernel

/-- R42: after a read the scratch registers are empty, and after the next operation the word it returned is nowhere. -/
theorem test_read_word_not_kept :
    (nextOf (exec (.dpRead 0x0#8) (linked (wire 3 0b100 ++ wire 32 idcodeWire ++ [true])))).map
      (fun t => (t.ackraw, t.dsr, t.parrx)) = some (0, 0, false) ∧
    (nextOf (exec (.setDir .input) { driving with result := { ack := .ok, data := some 7, parityOk := true } })).map
      State.result = some { ack := .ok, data := none, parityOk := true } := by decide +kernel

/-- U8: the response before the first operation ends. -/
theorem test_response_at_reset :
    State.reset.response = none ∧ State.reset.readResponse = .error .respHasNoValue := by
  constructor <;> rfl

/-! ### Witnesses: the hypotheses of each obligation can be met -/

theorem witness_DecodeOfEncode :
    (Instr.formatRequest .ap .read 0xC#8).wellFormed = true ∧ (Instr.transfer 0xFF#8 0xFFFFFFFF#32).wellFormed = true ∧
    (Instr.reqApWrC 1).wellFormed = true ∧ Instr.ackInvalid7.wellFormed = true := by decide

theorem witness_UnusedCommandBitsIgnored :
    0x1#4 ∈ [0x0#4, 0x1#4] ∧ (0xFE#8).getLsbD 0 = (0x00#8).getLsbD 0 ∧
    0xF#4 ∈ [0x2#4, 0x4#4, 0x5#4, 0xC#4, 0xD#4, 0xE#4, 0xF#4] ∧ 0xA#4 ∈ [0x3#4, 0x8#4, 0xA#4] ∧
    (0xF9#8).extractLsb' 0 4 = (0x09#8).extractLsb' 0 4 := by decide

theorem witness_FormatterMakesTheRequestRows :
    isRequest 0x85#8 = false ∧ isRequest 0x00#8 = false ∧ isRequest 0xFF#8 = false ∧ isRequest 0xA5#8 = true ∧
    (Instr.reqDpRd0, 0xA5#8) ∈ readRows ++ writeRows 0 ∧ (Instr.reqApWrC 1, 0xBB#8) ∈ readRows ++ writeRows 1 := by
  decide

theorem witness_DataParityLaws : 0 < 32 ∧ 31 < 32 := by decide

theorem witness_AckClassification :
    0b000#3 ∉ [0b001#3, 0b010#3, 0b100#3] ∧ 0b111#3 ∉ [0b001#3, 0b010#3, 0b100#3] := by decide

/-- With the line driven and with the line released. -/
theorem witness_WriteBitIsOneCycle :
    DirectionAccepted .output { checked with dir := .output } ∧ DirectionAccepted .output State.reset :=
  ⟨.inr rfl, .inl rfl⟩

theorem witness_WriteByteIsEightCycles :
    DirectionAccepted .output { checked with dir := .output } ∧ DirectionAccepted .output State.reset :=
  ⟨.inr rfl, .inl rfl⟩

theorem witness_ReadBitSamplesTheLine : checked.dir = .input ∧ State.reset.dir = .input := ⟨rfl, rfl⟩

theorem witness_ReadByteIsEightCycles : checked.dir = .input ∧ 0 < 8 ∧ 7 < 8 := by decide

theorem witness_ReadWhileDrivingIsUnspecified : driving.dir = .output ∧ driving.callerChecks = false := ⟨rfl, rfl⟩

theorem witness_BitLinkEventCounts : State.reset.callerChecks = false ∧ driving.callerChecks = false := ⟨rfl, rfl⟩

/-- Each side of each equivalence occurs. -/
theorem witness_CallerMistakesStopWhenChecked :
    (checked.callerChecks = true ∧ checked.dir = .input) ∧
    ({ checked with dir := .output }.callerChecks = true ∧ { checked with dir := .output }.dir = .output) ∧
    (checked.callerChecks = true ∧ isRequest 0x85#8 = false) ∧
    ¬ (State.reset.callerChecks = true ∧ State.reset.dir = .input) := by decide

theorem witness_ChecksInvisibleToGoodCallers :
    callerOk .readBit State.reset = true ∧ ∃ t, exec .readBit { State.reset with callerChecks := false } = .next t :=
  ⟨rfl, _, rfl⟩

theorem witness_EveryOperationAlwaysRuns : State.reset.callerChecks = false ∧ isReserved (.apRead 0) = false :=
  ⟨rfl, rfl⟩

/-- Each of the four codes. -/
theorem witness_ReservedCodesAreRefused :
    ∀ op ∈ [0xC#4, 0xD#4, 0xE#4, 0xF#4],
      { State.reset with inbox := [.command (commandWord op 0 0)] }.phase = .idle ∧
      { State.reset with inbox := [.command (commandWord op 0 0)] }.inbox = .command (commandWord op 0 0) :: [] := by
  decide

/-- An acknowledge WAIT, to a checked and to an unchecked caller. -/
theorem witness_TransferNonOkResult :
    RequestAccepted 0xA5#8 { checked with env := wire 3 0b010 } ∧ RequestAccepted 0x85#8 (linked (wire 3 0b010)) ∧
    ackClass (linked (wire 3 0b010)).nextAck ≠ .ok :=
  ⟨.inr rfl, .inl rfl, by decide⟩

theorem witness_TransferReadResult :
    RequestAccepted 0xA5#8 (linked (wire 3 0b100)) ∧ ackClass (linked (wire 3 0b100)).nextAck = .ok ∧
    (0xA5#8).getLsbD 2 = true :=
  ⟨.inr rfl, by decide, by decide⟩

theorem witness_TransferWriteResult :
    RequestAccepted 0x81#8 (linked (wire 3 0b100)) ∧ ackClass (linked (wire 3 0b100)).nextAck = .ok ∧
    (0x81#8).getLsbD 2 = false :=
  ⟨.inr rfl, by decide, by decide⟩

theorem witness_PhasesFollowTheDiagram : State.reset.phase ≠ .ack ∧ (acknowledging 0 0 []).phase = .ack := by decide

theorem witness_WaitAndFaultEndAfterThirteenCycles :
    RequestAccepted 0x9F#8 (linked (wire 3 0b010)) ∧ ackClass (linked (wire 3 0b010)).nextAck = .wait ∧
    RequestAccepted 0x9F#8 (linked (wire 3 0b001)) ∧ ackClass (linked (wire 3 0b001)).nextAck = .fault :=
  ⟨.inr rfl, by decide, .inr rfl, by decide⟩

/-- T9b: the word zero with a parity bit 1. -/
theorem witness_ReadParityMismatch :
    RequestAccepted 0xA5#8 (linked (wire 3 0b100 ++ wire 32 0 ++ [true])) ∧
    ackClass (linked (wire 3 0b100 ++ wire 32 0 ++ [true])).nextAck = .ok ∧ (0xA5#8).getLsbD 2 = true ∧
    (linked (wire 3 0b100 ++ wire 32 0 ++ [true])).nextParity ≠
      par32 (linked (wire 3 0b100 ++ wire 32 0 ++ [true])).nextWord :=
  ⟨.inr rfl, by decide, by decide, by decide +kernel⟩

theorem witness_WriteDrivesWordParityIdle :
    RequestAccepted 0xBB#8 (linked (wire 3 0b100)) ∧ ackClass (linked (wire 3 0b100)).nextAck = .ok ∧
    (0xBB#8).getLsbD 2 = false :=
  ⟨.inr rfl, by decide, by decide⟩

theorem witness_WdataIgnoredOnReadsNoDataOnWrites :
    (0xA5#8).getLsbD 2 = true ∧ RequestAccepted 0x81#8 State.reset ∧ (0x81#8).getLsbD 2 = false :=
  ⟨by decide, .inr rfl, by decide⟩

/-- A header of the formatter, and a malformed byte. -/
theorem witness_RequestGoesOutAsGiven : RequestAccepted 0xA5#8 checked ∧ RequestAccepted 0x85#8 State.reset :=
  ⟨.inr rfl, .inl rfl⟩

theorem witness_ReadReturnsWhatTheLineCarries : ackClass 0b111#3 ≠ .ok ∧ ackClass 0b010#3 ≠ .ok := by decide

/-- A register operation from reset, and a pattern in the acknowledge phase. -/
theorem witness_TransactionsEndDrivingLow :
    (isTransaction (.dpRead 0) = true ∧ (isAckRow (.dpRead 0) → State.reset.phase = .ack) ∧
      ∃ t, exec (.dpRead 0) State.reset = .next t) ∧
    (isTransaction .ackOk = true ∧ (isAckRow .ackOk → (acknowledging 0 0 []).phase = .ack) ∧
      ∃ t, exec .ackOk (acknowledging 0 0 []) = .next t) :=
  ⟨⟨rfl, by decide, _, rfl⟩, ⟨rfl, by decide, _, rfl⟩⟩

theorem witness_RequestRowsAreTransactions :
    (Instr.reqDpRd0, 0xA5#8) ∈ readRows ∧ (Instr.reqApRdC, 0x9F#8) ∈ readRows ∧
    (Instr.reqDpWr0 7, 0x81#8) ∈ writeRows 7 ∧ (Instr.reqApWrC 7, 0xBB#8) ∈ writeRows 7 := by decide

theorem witness_AckRowsFinishTheTransfer :
    (Instr.ackOk, 0b001#3) ∈ ackRows ∧ (Instr.ackInvalid7, 0b111#3) ∈ ackRows ∧ (acknowledging 0 0 []).phase = .ack ∧
    (acknowledging 0 0 []).dir = .input := by decide

theorem witness_AckOutsideItsPhaseIsIgnored : isAckRow .ackInvalid3 ∧ State.reset.phase ≠ .ack := by decide

theorem witness_TransferIsHeaderThenAckRow :
    (Instr.ackFault, 0b100#3) ∈ ackRows ∧ RequestAccepted 0xA5#8 checked :=
  ⟨by decide, .inr rfl⟩

/-- Each of the five operations. -/
theorem witness_BitOperationsKeepDirection :
    (∃ t, exec (.writeBit true) driving = .next t) ∧ (∃ t, exec .readBit State.reset = .next t) ∧
    (∃ t, exec (.writeByte 0) driving = .next t) ∧ (∃ t, exec .readByte State.reset = .next t) ∧
    (∃ t, exec (.formatRequest .dp .read 0) State.reset = .next t) :=
  ⟨⟨_, rfl⟩, ⟨_, rfl⟩, ⟨_, rfl⟩, ⟨_, rfl⟩, ⟨_, rfl⟩⟩

theorem witness_StatusWrittenByTransactionsOnly :
    isTransaction .lineReset = false ∧ ∃ t, exec .lineReset State.reset = .next t :=
  ⟨rfl, _, rfl⟩

/-- A register operation, and a pattern in the acknowledge phase. -/
theorem witness_NothingReadIsKept :
    ¬ isAckRow .lineReset ∧
    (isTransaction (.dpRead 0) = true ∧ ¬ isAckRow (.dpRead 0) ∧ ∃ t, exec (.dpRead 0) State.reset = .next t) ∧
    (isTransaction .ackOk = true ∧ (isAckRow .ackOk → (acknowledging 0 0 []).phase = .ack) ∧
      ∃ t, exec .ackOk (acknowledging 0 0 []) = .next t) :=
  ⟨by decide, ⟨rfl, by decide, _, rfl⟩, ⟨rfl, by decide, _, rfl⟩⟩

/-- Before any operation, after one, and in the acknowledge phase. -/
theorem witness_RespFaultsOnlyBeforeTheFirstOperation :
    State.reset.reply = .noValue ∧
    (∃ t, exec (.setDir .output) State.reset = .next t ∧ t.readResponse = .ok .nothing) ∧
    (∃ t, step { driving with reply := .success } = .next t ∧ t.readResponse = .ok .success) ∧
    ((acknowledging 0 0 []).phase = .ack ∧ ∃ t, exec .ackWait (acknowledging 0 0 []) = .next t) :=
  ⟨rfl, ⟨_, rfl, rfl⟩, ⟨_, rfl, rfl⟩, rfl, _, rfl⟩

theorem witness_HostResultsAreConsistent :
    (∃ t, exec (.transfer 0xA5#8 0) State.reset = .next t) ∧ (∃ t, exec (.dpRead 0) State.reset = .next t) ∧
    (∃ t, exec (.dpWrite 0 0) State.reset = .next t) ∧ (∃ t, exec (.apRead 0) State.reset = .next t) ∧
    (∃ t, exec (.apWrite 0 0) State.reset = .next t) :=
  ⟨⟨_, rfl⟩, ⟨_, rfl⟩, ⟨_, rfl⟩, ⟨_, rfl⟩, ⟨_, rfl⟩⟩

theorem witness_ExecAppendsToTrace : ∃ t, exec (.apRead 0) State.reset = .next t := ⟨_, rfl⟩

theorem witness_CyclesAreBounded : State.reset.phase = .idle ∧ ∃ t, exec (.apRead 0) State.reset = .next t :=
  ⟨rfl, _, rfl⟩

theorem witness_ResponsesAreConsistent :
    resultConsistent State.reset.result = true ∧
    ∃ t, exec (.dpRead 0) (linked (wire 3 0b010)) = .next t ∧
      t.response = some (.result { ack := .wait, data := none, parityOk := true }) :=
  ⟨rfl, _, rfl, by decide +kernel⟩

theorem witness_PacketOperationsAreWellDriven :
    isTransaction (.apWrite 0 0) = true ∧ ¬ isAckRow (.apWrite 0 0) ∧
    (∃ t, exec (.apWrite 0 0) State.reset = .next t) ∧ ∃ t, exec .lineReset State.reset = .next t :=
  ⟨rfl, by decide, ⟨_, rfl⟩, ⟨_, rfl⟩⟩

/-- A command in an idle block, and a pattern in the acknowledge phase. -/
theorem witness_StepRunsTheDecodedInstruction :
    ({ State.reset with inbox := [.command 0x50000000000#44] }.inbox = [.command 0x50000000000#44] ∧
      decode (.command 0x50000000000#44) = .ok .lineReset ∧ accepts (.command 0x50000000000#44) State.reset = true) ∧
    (decode (.ack 0b010#3) = .ok .ackWait ∧ accepts (.ack 0b010#3) (acknowledging 0 0 []) = true) :=
  ⟨⟨rfl, rfl, rfl⟩, ⟨rfl, rfl⟩⟩

theorem witness_StepWithoutInputIsQuiescent : State.reset.phase = .idle ∧ State.reset.inbox = [] := ⟨rfl, rfl⟩

theorem witness_StepRefusesWhatItCannotTake :
    (decode (.command 0x50000000000#44) = .ok .lineReset ∧ (∀ p, Frame.command 0x50000000000#44 ≠ .ack p) ∧
      (acknowledging 0 0 []).phase ≠ .idle) ∧
    isRequest 0x85#8 = false :=
  ⟨⟨rfl, by decide, by decide⟩, rfl⟩

theorem witness_StepKeepsQuiescent : Quiescent State.reset ∧ ∃ t, step State.reset = .next t :=
  ⟨⟨rfl, rfl, rfl, ⟨rfl, rfl, rfl, rfl, rfl⟩, .inr rfl⟩, _, rfl⟩

theorem witness_StepKeepsTraceFaithful :
    (∃ t, step State.reset = .next t) ∧ TraceExplainsPins State.reset ∧ wholePulses State.reset.trace = true :=
  ⟨⟨_, rfl⟩, rfl, rfl⟩

theorem witness_CheckedStepsAreWellDriven :
    checked.callerChecks = true ∧ checked.phase = .idle ∧ WellDrivenHistory checked ∧
    ∃ t, step { checked with inbox := [.command 0x80000000000#44] } = .next t :=
  ⟨rfl, rfl, ⟨rfl, rfl⟩, _, rfl⟩

end Sys2Proof.Tests
end

section
/-! SUPPORT. What the block adds to the wire: the events explain the outputs they lead to and consist of whole clock
pulses (R12, R22). -/

namespace Sys2Proof.Proofs

open Sys2Proof Sys2Proof.Machine Sys2Proof.Safety Sys2Proof.Claims

/-! ### Traces -/

theorem wholePulses_append {a b : List Event} (ha : wholePulses a = true) (hb : wholePulses b = true) :
    wholePulses (a ++ b) = true := by
  induction a using wholePulses.induct with
  | case1 => exact hb
  | case2 rest ih => exact ih ha
  | case3 l rest hpulse => simp_all [wholePulses]
  | case4 d rest ih => exact ih ha
  | case5 l rest ih => exact ih ha
  | case6 l rest ih => exact ih ha

theorem replay_append (p : Pins) (a b : List Event) : replay p (a ++ b) = replay (replay p a) b :=
  List.foldl_append

/-- Whole pulses leave a clock that rests at 1 at 1 (R12). -/
theorem replay_clock_high {tr : List Event} {p : Pins} (hw : wholePulses tr = true) (hp : p.swclk = true) :
    (replay p tr).swclk = true := by
  induction tr using wholePulses.induct generalizing p with
  | case1 => exact hp
  | case2 rest ih => exact ih hw rfl
  | case3 l rest hpulse => simp_all [wholePulses]
  | case4 d rest ih => exact ih hw hp
  | case5 l rest ih => exact ih hw hp
  | case6 l rest ih => exact ih hw hp

/-! ### Extending the trace -/

/-- From `s` to `t` the block added events to its trace: they consist of whole pulses and lead from the outputs of `s`
to those of `t`. The inbox and the treatment of the caller's mistakes are as they were. -/
def Extends (s t : State) : Prop :=
  ∃ ev, t.trace = s.trace ++ ev ∧ wholePulses ev = true ∧ replay (pinsOf s) ev = pinsOf t ∧
    t.inbox = s.inbox ∧ t.callerChecks = s.callerChecks

theorem Extends.refl (s : State) : Extends s s := ⟨[], by simp, rfl, rfl, rfl, rfl⟩

theorem Extends.trans {s t u : State} (hst : Extends s t) (htu : Extends t u) : Extends s u := by
  obtain ⟨a, htr, hwa, hpa, hin, hcc⟩ := hst
  obtain ⟨b, htr', hwb, hpb, hin', hcc'⟩ := htu
  exact ⟨a ++ b, by rw [htr', htr, List.append_assoc], wholePulses_append hwa hwb, by rw [replay_append, hpa, hpb],
    hin'.trans hin, hcc'.trans hcc⟩

theorem Extends.clock_high {s t : State} (h : Extends s t) (hs : s.swclk = true) : t.swclk = true := by
  obtain ⟨ev, -, hw, hp, -⟩ := h
  have hc := replay_clock_high (p := pinsOf s) hw hs
  rwa [hp] at hc

theorem Extends.keepsTraceExplainsPins {s t : State} (h : Extends s t) (hs : TraceExplainsPins s) :
    TraceExplainsPins t := by
  obtain ⟨ev, htr, -, hp, -⟩ := h
  unfold TraceExplainsPins at hs ⊢
  rw [htr, replay_append, hs, hp]

theorem Extends.keepsWholePulses {s t : State} (h : Extends s t) (hs : wholePulses s.trace = true) :
    wholePulses t.trace = true := by
  obtain ⟨ev, htr, hw, -⟩ := h
  rw [htr]
  exact wholePulses_append hs hw

/-! ### Moving bits -/

/-- From `s` to `u` the block moved bits: beside the outputs, the trace and what has been drawn from the environment,
nothing changed. -/
structure MovesBits (s u : State) : Prop where
  emitted : Extends s u
  frame :
    u = { s with
      dir := u.dir
      swclk := u.swclk
      dout := u.dout
      trace := u.trace
      env := u.env
      draws := u.draws }

theorem MovesBits.refl (s : State) : MovesBits s s := ⟨.refl s, rfl⟩

theorem MovesBits.trans {s t u : State} (hst : MovesBits s t) (htu : MovesBits t u) : MovesBits s u := by
  refine ⟨hst.emitted.trans htu.emitted, htu.frame.trans ?_⟩
  rw [hst.frame]

theorem MovesBits.result_eq {s u : State} (h : MovesBits s u) : u.result = s.result := by rw [h.frame]

theorem MovesBits.phase_eq {s u : State} (h : MovesBits s u) : u.phase = s.phase := by rw [h.frame]

theorem MovesBits.req_eq {s u : State} (h : MovesBits s u) : u.req = s.req := by rw [h.frame]

theorem MovesBits.keepsScratchReleased {s u : State} (h : MovesBits s u) (hs : scratchReleased s) :
    scratchReleased u := by
  rw [h.frame]
  exact hs

theorem movesBits_setDir (d : Dir) (s : State) : MovesBits s (setDir d s) :=
  ⟨⟨[.dir d], rfl, rfl, rfl, rfl, rfl⟩, rfl⟩

theorem movesBits_writeBit (b : Bit) (s : State) : MovesBits s (writeBit b s) :=
  ⟨⟨writeCycle b, writeBit_trace b s, rfl, rfl, rfl, rfl⟩, rfl⟩

theorem movesBits_turn (s : State) : MovesBits s (turn s) :=
  ⟨⟨turnCycle, turn_trace s, rfl, rfl, rfl, rfl⟩, rfl⟩

theorem movesBits_readBit (s : State) : MovesBits s (readBit s).2 := by
  obtain ⟨bit, env, draws, h⟩ := readBit_shape s
  rw [h]
  exact ⟨⟨readCycle bit, rfl, rfl, rfl, rfl, rfl⟩, rfl⟩

theorem movesBits_writeBits (bits : List Bit) (s : State) : MovesBits s (writeBits bits s) := by
  induction bits generalizing s with
  | nil => exact .refl s
  | cons b rest ih => exact (movesBits_writeBit b s).trans (ih _)

theorem movesBits_readBits (n : Nat) (s : State) : MovesBits s (readBits n s).2 := by
  induction n generalizing s with
  | zero => exact .refl s
  | succ n ih => exact (movesBits_readBit s).trans (ih _)

theorem movesBits_lineResetPasses (passes n : Nat) (s : State) : MovesBits s (lineResetPasses passes n s) := by
  induction passes generalizing s with
  | zero => exact .refl s
  | succ passes ih => exact ((movesBits_writeBits _ s).trans (movesBits_writeBits _ _)).trans (ih _)

/-- A bit or byte is read without a change of direction (R11). -/
theorem readBits_dir (n : Nat) (s : State) : (readBits n s).2.dir = s.dir := by
  obtain ⟨bits, env, draws, -, h⟩ := readBits_shape n s
  rw [h]

end Sys2Proof.Proofs
end

section
/-! SUPPORT. A transfer phase by phase: what every phase keeps, where it leads, and that a transfer under way always ends
with its idle bit (R18, R91, R101). -/

namespace Sys2Proof.Proofs

open Sys2Proof Sys2Proof.Machine Sys2Proof.Safety Sys2Proof.Claims

/-! ### One phase -/

/-- Before the idle bit a phase moves bits and fills the registers that are filled from the line or with the operand;
the request and the last response stay. -/
theorem phaseStep_shape (s : State) (h : s.phase ≠ .idleBit) :
    ∃ u a v p ph, MovesBits s u ∧ phaseStep s = { u with ackraw := a, dsr := v, parrx := p, phase := ph } := by
  unfold phaseStep
  cases hp : s.phase with
  | idle => exact ⟨s, _, _, _, _, .refl s, rfl⟩
  | request => exact ⟨_, _, _, _, _, (movesBits_setDir .output s).trans (movesBits_writeBits (lsbBits s.req) _), rfl⟩
  | trn1 => exact ⟨_, _, _, _, _, (movesBits_setDir .input s).trans (movesBits_turn _), rfl⟩
  | ack => exact ⟨_, _, _, _, _, movesBits_readBits 3 s, rfl⟩
  | dataRd => exact ⟨_, _, _, _, _, movesBits_readBits 32 s, rfl⟩
  | parRd => exact ⟨_, _, _, _, _, movesBits_readBit s, rfl⟩
  | trn2 => exact ⟨_, _, _, _, _, movesBits_turn s, rfl⟩
  | dataWr =>
    refine ⟨writeValue s.wdata (setDir .output s), s.ackraw, s.wdata, s.parrx, .parWr,
      (movesBits_setDir .output s).trans (movesBits_writeBits _ _), ?_⟩
    simp [dataWritePhase_eq, writeValue_eq, setDir]
  | parWr => exact ⟨_, _, _, _, _, movesBits_writeBit (par32 s.dsr) s, rfl⟩
  | idleBit => contradiction

theorem phaseStep_of_idleBit {s : State} (h : s.phase = .idleBit) : phaseStep s = idleBitPhase s := by
  simp [phaseStep, h]

theorem extends_idleBitPhase (s : State) : Extends s (idleBitPhase s) := by
  have switched : Extends s (if dataPhaseDrove s then s else setDir .output s) := by
    split
    · exact .refl s
    · exact (movesBits_setDir .output s).emitted
  exact switched.trans (movesBits_writeBits (List.replicate Config.idleBits Config.idleValue) _).emitted

theorem extends_phaseStep (s : State) : Extends s (phaseStep s) := by
  by_cases hb : s.phase = .idleBit
  · rw [phaseStep_of_idleBit hb]
    exact extends_idleBitPhase s
  · obtain ⟨u, a, v, p, ph, hu, heq⟩ := phaseStep_shape s hb
    rw [heq]
    exact hu.emitted

theorem phaseStep_req {s : State} (h : s.phase ≠ .idleBit) : (phaseStep s).req = s.req := by
  obtain ⟨u, a, v, p, ph, hu, heq⟩ := phaseStep_shape s h
  rw [heq]
  exact hu.req_eq

theorem phaseAfterAck_eq (reads : Bool) (x : AckPattern) :
    phaseAfterAck reads x = phaseArrows .ack (ackClass x) reads := by
  unfold phaseAfterAck
  cases ackClass x <;> rfl

/-- The acknowledge phase leads where the bits it has read say (R58, R92). -/
theorem phaseStep_phase_of_ack {s : State} (h : s.phase = .ack) :
    (phaseStep s).phase = phaseArrows .ack (ackClass (phaseStep s).ackraw) (requestReads s.req) := by
  simp only [phaseStep, h]
  exact phaseAfterAck_eq _ _

/-- Every other phase leads where the request says (R92). -/
theorem phaseStep_phase {s : State} (h : s.phase ≠ .ack) (cls : AckClass) :
    (phaseStep s).phase = phaseArrows s.phase cls (requestReads s.req) := by
  unfold phaseStep
  cases hp : s.phase with
  | idle => exact hp
  | ack => contradiction
  | _ => rfl

/-- Every phase follows an arrow of the diagram (R18). -/
theorem phaseStep_follows_arrow (s : State) :
    ∃ cls, (phaseStep s).phase = phaseArrows s.phase cls (requestReads s.req) := by
  by_cases ha : s.phase = .ack
  · exact ⟨_, ha ▸ phaseStep_phase_of_ack ha⟩
  · exact ⟨.ok, phaseStep_phase ha .ok⟩

/-! ### The end of a transfer -/

/-- How many phases a transfer has still to run, whatever the acknowledge is (R18). -/
def phasesLeft (p : Phase) (reads : Bool) : Nat :=
  match p with
  | .idle => 0
  | .request => 7
  | .trn1 => 6
  | .ack => 5
  | .dataRd => if reads then 4 else 6
  | .parRd => if reads then 3 else 5
  | .trn2 => if reads then 2 else 4
  | .dataWr => 3
  | .parWr => 2
  | .idleBit => 1

theorem phasesLeft_le_maxPhases (p : Phase) (reads : Bool) : phasesLeft p reads ≤ maxPhases := by
  cases p <;> cases reads <;> decide

/-- Each arrow of the diagram brings the transfer nearer to its end (R18). -/
theorem phasesLeft_phaseArrows_lt {p : Phase} (h : p ≠ .idle) (cls : AckClass) (reads : Bool) :
    phasesLeft (phaseArrows p cls reads) reads < phasesLeft p reads := by
  cases p with
  | idle => contradiction
  | _ => cases cls <;> cases reads <;> decide

theorem phaseStep_phasesLeft_lt {s : State} (hi : s.phase ≠ .idle) :
    phasesLeft (phaseStep s).phase (requestReads s.req) < phasesLeft s.phase (requestReads s.req) := by
  obtain ⟨cls, harrow⟩ := phaseStep_follows_arrow s
  rw [harrow]
  exact phasesLeft_phaseArrows_lt hi cls _

theorem phaseArrows_ne_idle {p : Phase} (hi : p ≠ .idle) (hb : p ≠ .idleBit) (cls : AckClass) (reads : Bool) :
    phaseArrows p cls reads ≠ .idle := by
  cases p with
  | idle | idleBit => contradiction
  | _ => cases cls <;> cases reads <;> decide

theorem phaseStep_ne_idle {s : State} (hi : s.phase ≠ .idle) (hb : s.phase ≠ .idleBit) :
    (phaseStep s).phase ≠ .idle := by
  obtain ⟨cls, harrow⟩ := phaseStep_follows_arrow s
  rw [harrow]
  exact phaseArrows_ne_idle hi hb cls _

theorem runPhases_of_idleBit (n : Nat) {s : State} (h : s.phase = .idleBit) : runPhases (n + 1) s = idleBitPhase s := by
  rw [runPhases, phaseStep_of_idleBit h, runPhases_idle n _ rfl]

/-- A transfer under way, given the phases it has left, ends with its idle bit (R18, R101). -/
theorem runPhases_ends (n : Nat) (s : State) (hi : s.phase ≠ .idle)
    (hn : phasesLeft s.phase (requestReads s.req) ≤ n) : ∃ u, runPhases n s = idleBitPhase u := by
  induction n generalizing s with
  | zero =>
    have hlt := phaseStep_phasesLeft_lt hi
    omega
  | succ n ih =>
    by_cases hb : s.phase = .idleBit
    · exact ⟨s, runPhases_of_idleBit n hb⟩
    · have hlt := phaseStep_phasesLeft_lt hi
      apply ih (phaseStep s) (phaseStep_ne_idle hi hb)
      rw [phaseStep_req hb]
      omega

theorem extends_runPhases (n : Nat) (s : State) : Extends s (runPhases n s) := by
  induction n generalizing s with
  | zero => exact .refl s
  | succ n ih => exact (extends_phaseStep s).trans (ih _)

theorem extends_transfer (req : RequestByte) (w : Word) (s : State) : Extends s (transfer req w s) :=
  extends_runPhases maxPhases (startTransfer req w s)

theorem extends_receiveAck (pattern : AckPattern) (s : State) : Extends s (receiveAck pattern s) := by
  unfold receiveAck
  split
  · exact extends_runPhases maxPhases { s with env := lsbBits pattern ++ s.env }
  · exact .refl s

theorem resume_ends {s : State} (h : s.phase ≠ .idle) : ∃ u, resume s = idleBitPhase u :=
  runPhases_ends maxPhases s h (phasesLeft_le_maxPhases _ _)

theorem transfer_ends (req : RequestByte) (w : Word) (s : State) : ∃ u, transfer req w s = idleBitPhase u :=
  resume_ends (s := startTransfer req w s) (by simp)

theorem receiveAck_ends (pattern : AckPattern) {s : State} (h : s.phase = .ack) :
    ∃ u, receiveAck pattern s = idleBitPhase u := by
  rw [receiveAck, if_pos h]
  exact resume_ends (by simp [h])

theorem receiveAck_outside (pattern : AckPattern) {s : State} (h : s.phase ≠ .ack) : receiveAck pattern s = s := by
  rw [receiveAck, if_neg h]

/-- `AP_READ` is one transfer or two (R114). -/
theorem apRead_eq_transfer (addr : Byte) (s : State) :
    ∃ req u, apRead addr s = transfer req 0 u ∧ Extends s u := by
  unfold apRead
  simp only
  split
  · exact ⟨_, _, rfl, extends_transfer _ _ s⟩
  all_goals exact ⟨_, s, rfl, .refl s⟩

/-! ### The result of a transfer -/

theorem idleBitPhase_result (u : State) :
    (idleBitPhase u).result = transferOutcome (requestReads u.req) u.ackraw u.dsr u.parrx := by
  simp [idleBitPhase]

theorem scratchReleased_idleBitPhase (u : State) : scratchReleased (idleBitPhase u) := ⟨rfl, rfl, rfl, rfl, rfl⟩

/-- R17 of the outcome of a transaction, which a parity failure makes a PROTOCOL_ERROR (R146). -/
theorem transferOutcome_consistent {reads : Bool} {ack : AckPattern} {dsr : Word} {parrx : Bit} {r : TransferResult}
    (h : transferOutcome reads ack dsr parrx = r) :
    (r.ack = .ok → r.parityOk = true) ∧ (r.parityOk = false → r.data = none ∧ r.ack = .protocolError) ∧
      (r.data.isSome = true → r.ack = .ok) := by
  subst h
  unfold transferOutcome
  split
  · cases reads
    · simp
    · by_cases hp : parrx = par32 dsr <;> simp [hp]
  all_goals simp

theorem resultConsistent_iff (r : TransferResult) :
    resultConsistent r = true ↔ (r.ack = .ok → r.parityOk = true) ∧ (r.data.isSome = true → r.ack = .ok) := by
  unfold resultConsistent
  cases r.ack <;> simp

theorem resultConsistent_without_data {r : TransferResult} (h : resultConsistent r = true) :
    resultConsistent { r with data := none } = true := by
  rw [resultConsistent_iff] at h ⊢
  exact ⟨h.1, by simp⟩

theorem resultConsistent_idleBitPhase (u : State) : resultConsistent (idleBitPhase u).result = true := by
  rw [resultConsistent_iff]
  obtain ⟨hok, -, hdata⟩ := transferOutcome_consistent (idleBitPhase_result u).symm
  exact ⟨hok, hdata⟩

end Sys2Proof.Proofs
end

section
/-! SUPPORT. The final state of a whole transfer (R50, R65, R91). -/

namespace Sys2Proof.Proofs

open Sys2Proof Sys2Proof.Machine Sys2Proof.Safety Sys2Proof.Claims

/-- The bit that says whether a request reads is `req[2]` (R51, D15). -/
theorem requestReads_eq (req : RequestByte) : requestReads req = req.getLsbD 2 := by
  simp [requestReads, Config.dirRead]

/-- The state in which a transfer has received its acknowledge bits (R91). -/
def afterHeader (req : RequestByte) (w : Word) (s : State) : State :=
  { s.afterSamples 3 with
    dir := .input
    dout := req.getLsbD 7
    swclk := true
    req := req
    wdata := if requestReads req then s.wdata else w
    ackraw := s.nextAck
    phase := phaseAfterAck (requestReads req) s.nextAck
    trace := s.trace ++ headerTrace req s.nextAck }

theorem answer_afterHeader (req : RequestByte) (w : Word) (s : State) (k : Nat) :
    (afterHeader req w s).answer k = s.answer (3 + k) :=
  answer_afterSamples 3 k s

theorem answers_afterHeader (req : RequestByte) (w : Word) (s : State) (first count : Nat) :
    (afterHeader req w s).answers first count = s.answers (3 + first) count :=
  answers_afterSamples 3 first count s

theorem runPhases_startTransfer (req : RequestByte) (w : Word) (s : State) :
    runPhases 3 (startTransfer req w s) = afterHeader req w s := by
  have started :
      runPhases 3 (startTransfer req w s) = ackPhase (firstTurnPhase (requestPhase (startTransfer req w s))) := rfl
  rw [started, ackPhase_eq _ rfl, firstTurnPhase_eq, requestPhase_eq]
  simp [afterHeader, startTransfer, headerTrace, State.afterSamples, State.nextAck, State.answers, State.answer]

theorem transfer_eq_runPhases (req : RequestByte) (w : Word) (s : State) :
    transfer req w s = runPhases 4 (afterHeader req w s) := by
  rw [← runPhases_startTransfer]
  exact runPhases_add 3 4 _

/-- The data phase of a read, up to the idle bit (R60, R61, R91). -/
theorem runPhases_of_dataRd {s : State} (h : s.phase = .dataRd) (hd : s.dir = .input)
    (hr : requestReads s.req = true) :
    runPhases 4 s =
      idleBitPhase
        { s.afterSamples 33 with
          swclk := true
          dsr := packLsb 32 (s.answers 0 32)
          parrx := s.answer 32
          phase := .idleBit
          trace := s.trace ++ (readCycles (s.answers 0 32) ++ readCycle (s.answer 32) ++ turnCycle) } := by
  have word : phaseStep s = dataReadPhase s := by simp [phaseStep, h]
  have phases : runPhases 4 s = phaseStep (secondTurnPhase (parityReadPhase (dataReadPhase s))) := by
    rw [runPhases, word]
    rfl
  have parity : (dataReadPhase s).answer 0 = s.answer 32 := by
    rw [dataReadPhase_eq s hd]
    exact answer_afterSamples 32 0 s
  rw [phases, parityReadPhase_eq _ (by rw [dataReadPhase_eq s hd]; exact hd), parity, dataReadPhase_eq s hd,
    secondTurnPhase_eq, phaseStep_of_idleBit (if_pos hr)]
  congr 1
  ext1 <;> simp [State.afterSamples, hr]
  omega

/-- The data phase of a write, up to the idle bit (R60, R61, R91). -/
theorem runPhases_of_trn2_write {s : State} (h : s.phase = .trn2) (hr : requestReads s.req = false) :
    runPhases 4 s =
      idleBitPhase
        { s with
          dir := .output
          dout := par32 s.wdata
          swclk := true
          dsr := s.wdata
          phase := .idleBit
          trace :=
            s.trace ++
              (turnCycle ++ [.dir .output] ++ writeCycles (lsbBits s.wdata) ++ writeCycle (par32 s.wdata)) } := by
  have turned : phaseStep s = secondTurnPhase s := by simp [phaseStep, h]
  have written : phaseStep (secondTurnPhase s) = dataWritePhase (secondTurnPhase s) := by
    simp [phaseStep, secondTurnPhase_eq, hr]
  have phases : runPhases 4 s = idleBitPhase (parityWritePhase (dataWritePhase (secondTurnPhase s))) := by
    rw [runPhases, turned, runPhases, written]
    rfl
  rw [phases, parityWritePhase_eq, dataWritePhase_eq, secondTurnPhase_eq]
  simp

theorem transfer_of_nonOk (req : RequestByte) (w : Word) {s : State} (h : ackClass s.nextAck ≠ .ok) :
    transfer req w s = afterNonOk req s := by
  have ended : (afterHeader req w s).phase = .idleBit := by
    simp [afterHeader, phaseAfterAck_eq, phaseArrows, h]
  have outcome : transferOutcome (requestReads req) s.nextAck s.dsr s.parrx =
      { ack := ackClass s.nextAck, data := none, parityOk := true } := by
    unfold transferOutcome
    cases hc : ackClass s.nextAck <;> simp_all
  rw [transfer_eq_runPhases, runPhases_of_idleBit 3 ended, idleBitPhase_eq]
  ext1 <;>
    simp [afterHeader, afterNonOk, nonOkTrace, dataPhaseDrove, State.afterSamples, Config.idleValue, outcome, h]

theorem transfer_of_read {req : RequestByte} (w : Word) {s : State} (h : ackClass s.nextAck = .ok)
    (hr : requestReads req = true) : transfer req w s = afterRead req s := by
  have begun : (afterHeader req w s).phase = .dataRd := by simp [afterHeader, phaseAfterAck_eq, phaseArrows, h, hr]
  have bits : lsbBits s.nextWord = s.answers 3 32 := lsbBits_packLsb _ (by simp)
  have word : packLsb 32 (s.answers 3 32) = s.nextWord := rfl
  have parity : s.answer 35 = s.nextParity := rfl
  rw [transfer_eq_runPhases, runPhases_of_dataRd begun rfl hr, idleBitPhase_eq, answers_afterHeader, answer_afterHeader]
  ext1 <;>
    simp [afterHeader, afterRead, readTrace, dataPhaseDrove, transferOutcome, State.afterSamples, Config.idleValue,
      bits, word, parity, h, hr]
  omega

theorem transfer_of_write {req : RequestByte} (w : Word) {s : State} (h : ackClass s.nextAck = .ok)
    (hr : requestReads req = false) : transfer req w s = afterWrite req w s := by
  have begun : (afterHeader req w s).phase = .trn2 := by simp [afterHeader, phaseAfterAck_eq, phaseArrows, h, hr]
  rw [transfer_eq_runPhases, runPhases_of_trn2_write begun hr, idleBitPhase_eq]
  ext1 <;>
    simp [afterHeader, afterWrite, writeTrace, dataPhaseDrove, transferOutcome, State.afterSamples, Config.idleValue,
      h, hr]

/-- A transfer ends in the state that the bits the environment answers determine (R50, R65, R91). -/
theorem transfer_eq_afterTransfer (req : RequestByte) (w : Word) (s : State) :
    transfer req w s = afterTransfer req w s := by
  unfold afterTransfer
  rw [← requestReads_eq]
  split
  · rename_i hok
    split
    · rename_i hr
      exact transfer_of_read w hok hr
    · rename_i hr
      exact transfer_of_write w hok (by simpa using hr)
  · rename_i hok
    exact transfer_of_nonOk req w hok

/-- The outcome of a transfer does not depend on the result that stood before it (R20). -/
theorem transfer_withResult (req : RequestByte) (w : Word) (r : TransferResult) (s : State) :
    transfer req w { s with result := r } = transfer req w s := by
  rw [transfer_eq_afterTransfer, transfer_eq_afterTransfer]
  rfl

end Sys2Proof.Proofs
end

section
/-! SUPPORT. What an instruction that completes has done, said once (R20, R150). -/

namespace Sys2Proof.Proofs

open Sys2Proof Sys2Proof.Machine Sys2Proof.Safety Sys2Proof.Claims

/-- `t` is a state in which an operation with no Transaction Result has ended: bits were moved, then the host was handed
another response (R16). -/
def AnswersAfterBits (s t : State) : Prop := ∃ u r, t = u.respond r ∧ r ≠ .noValue ∧ MovesBits s u

/-- `requireDir` hands on the state of the operation it guards. -/
theorem answersAfterBits_of_requireDir {need : Dir} {f : Fault} {r : Reply} {s u t : State}
    (h : requireDir need f s (u.respond r) = .next t) (hr : r ≠ .noValue) (hu : MovesBits s u) :
    AnswersAfterBits s t :=
  ⟨u, r, (requireDir_eq_next h).1, hr, hu⟩

/-- An instruction that completes is an operation of the Bit-Link, a line reset or the formatter, or a transaction that
the block opens, or an acknowledge row. -/
theorem exec_eq_next {i : Instr} {s t : State} (h : exec i s = .next t) :
    (isTransaction i = false ∧ AnswersAfterBits s t) ∨
    (isTransaction i = true ∧ ∃ req w u, t = transfer req w u ∧ Extends s u) ∨
    (isTransaction i = true ∧ isAckRow i ∧ ∃ pattern, t = receiveAck pattern s) := by
  cases i with
  | setDir d => exact .inl ⟨rfl, _, _, (Host.Outcome.next.inj h).symm, by simp, movesBits_setDir d s⟩
  | writeBit b => exact .inl ⟨rfl, answersAfterBits_of_requireDir h (by simp) (movesBits_writeBit b s)⟩
  | readBit => exact .inl ⟨rfl, answersAfterBits_of_requireDir h (by simp) (movesBits_readBit s)⟩
  | writeByte v => exact .inl ⟨rfl, answersAfterBits_of_requireDir h (by simp) (movesBits_writeBits (lsbBits v) s)⟩
  | readByte => exact .inl ⟨rfl, answersAfterBits_of_requireDir h (by simp) (movesBits_readBits 8 s)⟩
  | lineReset =>
    exact .inl ⟨rfl, _, _, (Host.Outcome.next.inj h).symm, by simp,
      (movesBits_setDir .output s).trans (movesBits_lineResetPasses _ _ _)⟩
  | formatRequest p r a => exact .inl ⟨rfl, s, _, (Host.Outcome.next.inj h).symm, by simp, .refl s⟩
  | transfer req w => exact .inr (.inl ⟨rfl, req, w, s, (requireRequest_eq_next h).1, .refl s⟩)
  | apRead a =>
    obtain ⟨req, u, heq, hu⟩ := apRead_eq_transfer a s
    exact .inr (.inl ⟨rfl, req, 0, u, (Host.Outcome.next.inj h).symm.trans heq, hu⟩)
  | reservedC | reservedD | reservedE | reservedF => cases h
  | ackOk | ackWait | ackFault | ackInvalid0 | ackInvalid3 | ackInvalid5 | ackInvalid6 | ackInvalid7 =>
    exact .inr (.inr ⟨rfl, by decide, _, (Host.Outcome.next.inj h).symm⟩)
  | _ => exact .inr (.inl ⟨rfl, _, _, s, (Host.Outcome.next.inj h).symm, .refl s⟩)

theorem requireDir_eq_fault {need : Dir} {f g : Fault} {s t : State} (h : requireDir need f s t = .fault g) : g = f := by
  unfold requireDir at h
  split at h <;> cases h
  rfl

theorem requireRequest_ne_fault {req : RequestByte} {s t : State} {f : Fault} : requireRequest req s t ≠ .fault f := by
  unfold requireRequest
  split <;> simp

/-- Only the direction of a bit or byte operation can raise a fault (U1, U2). -/
theorem exec_eq_fault {i : Instr} {s : State} {f : Fault} (h : exec i s = .fault f) :
    f = .writeWhileInput ∨ f = .readWhileOutput := by
  cases i with
  | writeBit b | writeByte v => exact .inl (requireDir_eq_fault h)
  | readBit | readByte => exact .inr (requireDir_eq_fault h)
  | transfer req w => exact absurd h requireRequest_ne_fault
  | _ => cases h

theorem extends_exec {i : Instr} {s t : State} (h : exec i s = .next t) : Extends s t := by
  rcases exec_eq_next h with ⟨-, u, r, rfl, -, hu⟩ | ⟨-, req, w, u, rfl, hu⟩ | ⟨-, -, pattern, rfl⟩
  · exact hu.emitted
  · exact hu.trans (extends_transfer req w u)
  · exact extends_receiveAck pattern s

/-- A transaction that completes has ended with its idle bit, an acknowledge row where the block reads one (R145). -/
theorem transaction_ends {i : Instr} {s t : State} (hi : isTransaction i = true) (ha : isAckRow i → s.phase = .ack)
    (h : exec i s = .next t) : ∃ u, t = idleBitPhase u := by
  rcases exec_eq_next h with ⟨hno, -⟩ | ⟨-, req, w, u, rfl, -⟩ | ⟨-, hrow, pattern, rfl⟩
  · simp [hi] at hno
  · exact transfer_ends req w u
  · exact receiveAck_ends pattern (ha hrow)

/-- What an instruction that completes leaves: the response of an operation that is no transaction, the end of a
transfer, or, of an acknowledge row outside its phase, the state as it was. -/
theorem exec_ends {i : Instr} {s t : State} (h : exec i s = .next t) :
    (isTransaction i = false ∧ AnswersAfterBits s t) ∨ (isTransaction i = true ∧ ∃ u, t = idleBitPhase u) ∨
      (isAckRow i ∧ s.phase ≠ .ack ∧ t = s) := by
  rcases exec_eq_next h with hlink | ⟨hi, req, w, u, rfl, -⟩ | ⟨hi, hrow, pattern, rfl⟩
  · exact .inl hlink
  · exact .inr (.inl ⟨hi, transfer_ends req w u⟩)
  · by_cases ha : s.phase = .ack
    · exact .inr (.inl ⟨hi, receiveAck_ends pattern ha⟩)
    · exact .inr (.inr ⟨hrow, ha, receiveAck_outside pattern ha⟩)

end Sys2Proof.Proofs
end

section
/-! SUPPORT. What the host reads, and what a step keeps (R16, R17, R25). -/

namespace Sys2Proof.Proofs

open Sys2Proof Sys2Proof.Machine Sys2Proof.Safety Sys2Proof.Claims

/-! ### Responses -/

theorem readResponse_eq_error_iff (s : State) : s.readResponse = .error .respHasNoValue ↔ s.reply = .noValue := by
  unfold State.readResponse State.response
  cases s.reply <;> simp

theorem readable_iff (s : State) : (∃ r, s.readResponse = .ok r) ↔ s.reply ≠ .noValue := by
  unfold State.readResponse State.response
  cases s.reply <;> simp

theorem response_eq_result {s : State} {r : TransferResult} (h : s.response = some (.result r)) : s.result = r := by
  unfold State.response at h
  cases hr : s.reply <;> simp_all

theorem idleBitPhase_reply (u : State) : (idleBitPhase u).reply = .transferResult := rfl

theorem response_idleBitPhase (u : State) :
    (idleBitPhase u).response = some (.result (transferOutcome (requestReads u.req) u.ackraw u.dsr u.parrx)) := by
  simp [State.response, idleBitPhase_reply, idleBitPhase_result]

/-- An instruction never leaves a response that cannot be read where there was one that could. -/
theorem exec_reply_ne_noValue {i : Instr} {s t : State} (h : exec i s = .next t)
    (ha : isAckRow i → s.phase = .ack ∨ s.reply ≠ .noValue) : t.reply ≠ .noValue := by
  rcases exec_ends h with ⟨-, u, r, rfl, hr, -⟩ | ⟨-, u, rfl⟩ | ⟨hrow, hout, rfl⟩
  · exact hr
  · simp [idleBitPhase_reply]
  · exact (ha hrow).resolve_left hout

/-- R17 is kept by every instruction. -/
theorem exec_resultConsistent {i : Instr} {s t : State} (hs : resultConsistent s.result = true)
    (h : exec i s = .next t) : resultConsistent t.result = true := by
  rcases exec_ends h with ⟨-, u, r, rfl, -, hu⟩ | ⟨-, u, rfl⟩ | ⟨-, -, rfl⟩
  · rw [respond_result, hu.result_eq]
    exact resultConsistent_without_data hs
  · exact resultConsistent_idleBitPhase u
  · exact hs

/-! ### Quiescence and steps -/

/-- An instruction that runs from a quiescent state ends in one: the clock rests at 1 because only whole pulses were
added, the other properties follow from how the instruction ended (R12, R17, R42). -/
theorem exec_quiescent {i : Instr} {s t : State} (hs : Quiescent s) (h : exec i s = .next t) : Quiescent t := by
  have hclock : t.swclk = true := (extends_exec h).clock_high hs.clock_high
  have hresult : resultConsistent t.result = true := exec_resultConsistent hs.result_consistent h
  rcases exec_ends h with ⟨-, u, r, rfl, -, hu⟩ | ⟨-, u, rfl⟩ | ⟨-, -, rfl⟩
  · exact
      { phase_idle := hu.phase_eq.trans hs.phase_idle
        clock_high := hclock
        result_consistent := hresult
        scratch_released := hu.keepsScratchReleased hs.scratch_released
        word_returned := .inr rfl }
  · exact
      { phase_idle := rfl
        clock_high := hclock
        result_consistent := hresult
        scratch_released := scratchReleased_idleBitPhase u
        word_returned := .inl rfl }
  · exact hs

theorem quiescent_withInbox {s : State} (hs : Quiescent s) (rest : List Frame) : Quiescent { s with inbox := rest } :=
  { phase_idle := hs.phase_idle
    clock_high := hs.clock_high
    result_consistent := hs.result_consistent
    scratch_released := hs.scratch_released
    word_returned := hs.word_returned }

/-- A step only adds to the trace what leads from the outputs before it to those after it. The inbox alone differs. -/
theorem step_extends {s t : State} (h : step s = .next t) : ∃ rest, Extends { s with inbox := rest } t := by
  rcases step_eq_next h with ⟨-, rfl⟩ | ⟨f, rest, i, -, -, -, hexec⟩
  · exact ⟨s.inbox, extends_runPhases maxPhases s⟩
  · exact ⟨rest, extends_exec hexec⟩

/-- A step that faults ran an instruction that does. -/
theorem step_eq_fault {s : State} {f : Fault} (h : step s = .fault f) : ∃ i u, exec i u = .fault f := by
  unfold step at h
  split at h
  · cases h
  · split at h
    · cases h
    · split at h
      · exact ⟨_, _, h⟩
      · cases h

end Sys2Proof.Proofs
end

section
/-! SUPPORT. The statements about the state (10_state.md), settled. -/

namespace Sys2Proof.Proofs

open Sys2Proof Sys2Proof.Machine Sys2Proof.Safety Sys2Proof.Claims

/-- Settles O58: with nothing presented the block rests, and a word that is taken runs an instruction, which keeps
quiescence. -/
theorem stepKeepsQuiescent : Obligations.StepKeepsQuiescent := by
  intro s t hs h
  rcases step_eq_next h with ⟨-, rfl⟩ | ⟨f, rest, i, -, -, -, hexec⟩
  · rw [resume_idle s hs.phase_idle]
    exact hs
  · exact exec_quiescent (quiescent_withInbox hs rest) hexec

/-- Settles O59: everything a step adds to the trace explains the outputs and consists of whole pulses. -/
theorem stepKeepsTraceFaithful : Obligations.StepKeepsTraceFaithful := by
  intro s t h
  obtain ⟨rest, hext⟩ := step_extends h
  exact ⟨hext.keepsTraceExplainsPins, hext.keepsWholePulses⟩

/-- Settles O25: the arrows are the equations of `phaseStep`, and every transfer ends with its idle bit. -/
theorem phasesFollowTheDiagram : Obligations.PhasesFollowTheDiagram := by
  refine ⟨fun s h => phaseStep_phase h _, fun s h => ?_, fun req w s => ⟨rfl, ?_⟩⟩
  · rw [phaseStep_phase_of_ack h, h]
  · obtain ⟨u, hu⟩ := transfer_ends req w s
    rw [hu]
    rfl

/-- Settles O45: an operation that is no transaction ends with `respond`; a transfer's final state does not mention
the old result. -/
theorem statusWrittenByTransactionsOnly : Obligations.StatusWrittenByTransactionsOnly := by
  constructor
  · intro i s t hi h
    rcases exec_eq_next h with ⟨-, u, r, rfl, -, hu⟩ | ⟨htr, -⟩ | ⟨htr, -⟩
    · rw [respond_result, hu.result_eq]
    · simp [hi] at htr
    · simp [hi] at htr
  · intro req w r s
    have same :
        exec (.transfer req w) { s with result := r } =
          requireRequest req s (transfer req w { s with result := r }) := rfl
    rw [same, transfer_withResult]
    rfl

/-- Settles O47: whatever completes has answered, and only the check of a direction raises a fault. -/
theorem respFaultsOnlyBeforeTheFirstOperation : Obligations.RespFaultsOnlyBeforeTheFirstOperation := by
  refine ⟨readResponse_eq_error_iff, fun i s t ha h => ?_, fun s t hs h => ?_, fun i s h => ?_, fun s h => ?_⟩
  · exact (readable_iff t).2 (exec_reply_ne_noValue h fun hrow => .inl (ha hrow))
  · rw [readable_iff] at hs ⊢
    rcases step_eq_next h with ⟨-, rfl⟩ | ⟨f, rest, i, -, -, -, hexec⟩
    · by_cases hi : s.phase = .idle
      · rwa [resume_idle s hi]
      · obtain ⟨u, hu⟩ := resume_ends hi
        simp [hu, idleBitPhase_reply]
    · exact exec_reply_ne_noValue hexec fun _ => .inr hs
  · simpa using exec_eq_fault h
  · obtain ⟨i, u, hexec⟩ := step_eq_fault h
    simpa using exec_eq_fault hexec

/-- Settles O48: each of the five is a transaction that ends with the outcome of a transfer. -/
theorem hostResultsAreConsistent : Obligations.HostResultsAreConsistent := by
  intro i s t hi h
  obtain ⟨htransaction, hrow⟩ : isTransaction i = true ∧ ¬ isAckRow i := by
    rcases hi with ⟨q, w, rfl⟩ | ⟨a, rfl⟩ | ⟨a, w, rfl⟩ | ⟨a, rfl⟩ | ⟨a, w, rfl⟩ <;> simp [isTransaction, ackRows]
  obtain ⟨u, rfl⟩ := transaction_ends htransaction (fun hack => absurd hack hrow) h
  exact ⟨_, response_idleBitPhase u, transferOutcome_consistent rfl⟩

/-- Settles O49: the three facts are parts of `Extends`. -/
theorem execAppendsToTrace : Obligations.ExecAppendsToTrace := by
  intro i s t h
  obtain ⟨ev, htrace, -, -, hinbox, hchecks⟩ := extends_exec h
  exact ⟨⟨ev, htrace⟩, hinbox, hchecks⟩

/-- Settles O51: every instruction keeps R17, and a Transaction Result that is read is the last result. -/
theorem responsesAreConsistent : Obligations.ResponsesAreConsistent := by
  intro i s t r hs h hresp
  have hr := exec_resultConsistent hs h
  rw [response_eq_result hresp, resultConsistent_iff] at hr
  obtain ⟨hok, hdata⟩ := hr
  exact ⟨fun ⟨hack, hparity⟩ => by simp [hok hack] at hparity, fun ⟨hsome, hack⟩ => hack (hdata hsome)⟩

/-- Settles O44: writing and reading bits move the clock, the data level and the trace only. -/
theorem bitOperationsKeepDirection : Obligations.BitOperationsKeepDirection := by
  intro i s t hi h
  rcases hi with ⟨b, rfl⟩ | rfl | ⟨v, rfl⟩ | rfl | ⟨p, r, a, rfl⟩
  · rw [(requireDir_eq_next h).1, respond_dir, writeBit_dir]
  · rw [(requireDir_eq_next h).1, respond_dir]
    obtain ⟨bit, env, draws, hread⟩ := readBit_shape s
    rw [hread]
  · rw [(requireDir_eq_next h).1, respond_dir, writeValue_eq]
  · rw [(requireDir_eq_next h).1, respond_dir]
    exact readBits_dir 8 s
  · cases h
    rfl

/-- Settles O56: each value is a field of the reset state. -/
theorem resetValues : Obligations.ResetValues := ⟨rfl, rfl, rfl, rfl, rfl, rfl, rfl⟩

/-- Settles O57: each property is a fact about the fields of the reset state and its empty trace. -/
theorem resetMeetsTheInvariants : Obligations.ResetMeetsTheInvariants :=
  ⟨⟨rfl, rfl, rfl, ⟨rfl, rfl, rfl, rfl, rfl⟩, .inr rfl⟩, ⟨rfl, rfl⟩, rfl⟩

end Sys2Proof.Proofs
end

section
/-! SUPPORT. What an operation does not look at: the word of the last result, and, for a transaction that the block
opens, the scratch registers (R42). -/

namespace Sys2Proof.Proofs

open Sys2Proof Sys2Proof.Machine Sys2Proof.Safety Sys2Proof.Claims

/-! ### The word of the last result -/

/-- `s` with another word, or none, in its last result. -/
def withWord (d : Option Word) (s : State) : State := { s with result := { s.result with data := d } }

/-- Whatever the word was, the next response that is no Transaction Result drops it (R42). -/
theorem respond_withWord (r : Reply) (d : Option Word) (s : State) : (withWord d s).respond r = s.respond r := rfl

theorem requireDir_withWord (need : Dir) (f : Fault) (d : Option Word) (s t : State) :
    requireDir need f (withWord d s) t = requireDir need f s t := rfl

theorem writeBits_withWord (bits : List Bit) (d : Option Word) (s : State) :
    writeBits bits (withWord d s) = withWord d (writeBits bits s) := by
  induction bits generalizing s with
  | nil => rfl
  | cons b rest ih => exact ih (writeBit b s)

theorem readBit_withWord (d : Option Word) (s : State) :
    readBit (withWord d s) = ((readBit s).1, withWord d (readBit s).2) := by
  rcases dir_cases s with h | h
  · rw [readBit_input s h, readBit_input (withWord d s) h]
    rfl
  · rw [readBit_output s h, readBit_output (withWord d s) h]
    rfl

theorem readBits_withWord (n : Nat) (d : Option Word) (s : State) :
    readBits n (withWord d s) = ((readBits n s).1, withWord d (readBits n s).2) := by
  induction n generalizing s with
  | zero => rfl
  | succ n ih => simp only [readBits, readBit_withWord, ih]

theorem lineResetPasses_withWord (passes n : Nat) (d : Option Word) (s : State) :
    lineResetPasses passes n (withWord d s) = withWord d (lineResetPasses passes n s) := by
  induction passes generalizing s with
  | zero => rfl
  | succ passes ih =>
    rw [lineResetPasses, lineResetPass, writeBits_withWord, writeBits_withWord, ih]
    rfl

/-! ### Transactions -/

/-- The outcome of a transfer does not depend on the scratch registers and the operand that stood before it (R42). -/
theorem transfer_withScratch (req : RequestByte) (w : Word) (q : RequestByte) (a : AckPattern) (v x : Word) (p : Bit)
    (s : State) :
    transfer req w { s with req := q, ackraw := a, dsr := v, parrx := p, wdata := x } = transfer req w s := by
  rw [transfer_eq_afterTransfer, transfer_eq_afterTransfer]
  rfl

/-- A transaction that the block opens has the same outcome from two states from which every transfer ends alike, under
the same treatment of the caller's mistakes. -/
theorem exec_congr_of_transfer {i : Instr} {s t : State} (hi : isTransaction i = true) (hrow : ¬ isAckRow i)
    (hchecks : s.callerChecks = t.callerChecks) (h : ∀ req w, transfer req w s = transfer req w t) :
    exec i s = exec i t := by
  cases i with
  | transfer req w =>
    show requireRequest req s (transfer req w s) = requireRequest req t (transfer req w t)
    rw [h, requireRequest, requireRequest, hchecks]
  | apRead a =>
    show Host.Outcome.next (apRead a s) = Host.Outcome.next (apRead a t)
    unfold apRead
    rw [h]
  | ackOk | ackWait | ackFault | ackInvalid0 | ackInvalid3 | ackInvalid5 | ackInvalid6 | ackInvalid7 =>
    exact absurd (by decide) hrow
  | setDir | writeBit | readBit | writeByte | readByte | lineReset | formatRequest => cases hi
  | reservedC | reservedD | reservedE | reservedF => cases hi
  | _ => exact congrArg Host.Outcome.next (h _ _)

/-- No instruction but an acknowledge row depends on the word in the last result: an operation that is no transaction
moves bits beside it and then drops it, a transaction overwrites it (R42). -/
theorem exec_withWord {i : Instr} (hrow : ¬ isAckRow i) (d : Option Word) (s : State) :
    exec i (withWord d s) = exec i s := by
  cases i with
  | setDir | writeBit | formatRequest => rfl
  | reservedC | reservedD | reservedE | reservedF => rfl
  | readBit =>
    show execReadBit (withWord d s) = execReadBit s
    simp only [execReadBit, readBit_withWord, respond_withWord, requireDir_withWord]
  | writeByte v =>
    show execWriteByte v (withWord d s) = execWriteByte v s
    simp only [execWriteByte, writeValue, writeBits_withWord, respond_withWord, requireDir_withWord]
  | readByte =>
    show execReadByte (withWord d s) = execReadByte s
    simp only [execReadByte, readValue, readBits_withWord, respond_withWord, requireDir_withWord]
  | lineReset =>
    have passes := lineResetPasses_withWord Config.lineResetPasses Config.lineResetHighCycles d (setDir .output s)
    exact congrArg (fun u => Host.Outcome.next (u.respond .success)) passes
  | _ => exact exec_congr_of_transfer rfl hrow rfl fun req w => transfer_withResult req w _ s

end Sys2Proof.Proofs
end

section
/-! SUPPORT. The statements about the memory of the block (20_memory.md), settled. -/

namespace Sys2Proof.Proofs

open Sys2Proof Sys2Proof.Machine Sys2Proof.Safety Sys2Proof.Claims

/-- Settles O53: of the branches of `step` the three hypotheses leave the one that runs the instruction. -/
theorem stepRunsTheDecodedInstruction : Obligations.StepRunsTheDecodedInstruction := by
  intro f rest i s hinbox hdecode haccepts
  simp only [step, hinbox, hdecode, haccepts, if_true]

/-- Settles O46: no operation looks at the old word, no transfer at the old scratch registers, and a transaction that
completes has ended with its idle bit, which gives them up. -/
theorem nothingReadIsKept : Obligations.NothingReadIsKept := by
  refine ⟨fun i d s hrow => exec_withWord hrow d s, fun i q a v w p s hi hrow => ?_, fun i s t hi ha h => ?_⟩
  · exact exec_congr_of_transfer hi hrow rfl fun req x => transfer_withScratch req x q a v w p s
  · obtain ⟨u, rfl⟩ := transaction_ends hi ha h
    exact scratchReleased_idleBitPhase u

end Sys2Proof.Proofs
end

section
/-! SUPPORT. What the decoder makes of each word: one equation for each command code, the sixteen headers, the operands
that a field carries (R51, R57, R66, R67). -/

namespace Sys2Proof.Proofs

open Sys2Proof Sys2Proof.Machine Sys2Proof.Safety Sys2Proof.Claims

/-! ### Command words -/

@[simp] theorem decode_setDirWord (a : Byte) (w : Word) :
    decode (.command (commandWord 0x0#4 a w)) = .ok (.setDir (dirOfBit (a.getLsbD 0))) := by
  simp [decode, decodeCommand]

@[simp] theorem decode_writeBitWord (a : Byte) (w : Word) :
    decode (.command (commandWord 0x1#4 a w)) = .ok (.writeBit (a.getLsbD 0)) := by
  simp [decode, decodeCommand]

@[simp] theorem decode_readBitWord (a : Byte) (w : Word) :
    decode (.command (commandWord 0x2#4 a w)) = .ok .readBit := by
  simp [decode, decodeCommand]

@[simp] theorem decode_writeByteWord (a : Byte) (w : Word) :
    decode (.command (commandWord 0x3#4 a w)) = .ok (.writeByte a) := by
  simp [decode, decodeCommand]

@[simp] theorem decode_readByteWord (a : Byte) (w : Word) :
    decode (.command (commandWord 0x4#4 a w)) = .ok .readByte := by
  simp [decode, decodeCommand]

@[simp] theorem decode_lineResetWord (a : Byte) (w : Word) :
    decode (.command (commandWord 0x5#4 a w)) = .ok .lineReset := by
  simp [decode, decodeCommand]

@[simp] theorem decode_transferWord (a : Byte) (w : Word) :
    decode (.command (commandWord 0x6#4 a w)) = .ok (.transfer a w) := by
  simp [decode, decodeCommand]

@[simp] theorem decode_formatRequestWord (a : Byte) (w : Word) :
    decode (.command (commandWord 0x7#4 a w)) =
      .ok (.formatRequest (portOfBit (a.getLsbD 0)) (accessOfBit (a.getLsbD 1)) (a &&& addressMask)) := by
  simp [decode, decodeCommand]

@[simp] theorem decode_dpReadWord (a : Byte) (w : Word) :
    decode (.command (commandWord 0x8#4 a w)) = .ok (.dpRead a) := by
  simp [decode, decodeCommand]

@[simp] theorem decode_dpWriteWord (a : Byte) (w : Word) :
    decode (.command (commandWord 0x9#4 a w)) = .ok (.dpWrite a w) := by
  simp [decode, decodeCommand]

@[simp] theorem decode_apReadWord (a : Byte) (w : Word) :
    decode (.command (commandWord 0xA#4 a w)) = .ok (.apRead a) := by
  simp [decode, decodeCommand]

@[simp] theorem decode_apWriteWord (a : Byte) (w : Word) :
    decode (.command (commandWord 0xB#4 a w)) = .ok (.apWrite a w) := by
  simp [decode, decodeCommand]

@[simp] theorem decode_reservedCWord (a : Byte) (w : Word) :
    decode (.command (commandWord 0xC#4 a w)) = .ok .reservedC := by
  simp [decode, decodeCommand]

@[simp] theorem decode_reservedDWord (a : Byte) (w : Word) :
    decode (.command (commandWord 0xD#4 a w)) = .ok .reservedD := by
  simp [decode, decodeCommand]

@[simp] theorem decode_reservedEWord (a : Byte) (w : Word) :
    decode (.command (commandWord 0xE#4 a w)) = .ok .reservedE := by
  simp [decode, decodeCommand]

@[simp] theorem decode_reservedFWord (a : Byte) (w : Word) :
    decode (.command (commandWord 0xF#4 a w)) = .ok .reservedF := by
  simp [decode, decodeCommand]

/-! ### Operands -/

theorem dirOfBit_bitOfDir (d : Dir) : dirOfBit (bitOfDir d) = d := by cases d <;> rfl

theorem portOfBit_bitOfPort (p : Port) : portOfBit (bitOfPort p) = p := by cases p <;> rfl

theorem accessOfBit_bitOfAccess (r : Access) : accessOfBit (bitOfAccess r) = r := by cases r <;> rfl

/-- Only bit 0 of a one-bit operand can be set (R66). -/
theorem bitArg_getLsbD (b : Bit) (k : Nat) : (bitArg b).getLsbD k = (decide (k = 0) && b) := by
  cases b
  · simp [bitArg]
  · simp [bitArg, BitVec.getLsbD_one]

theorem bitArg_getLsbD_zero (b : Bit) : (bitArg b).getLsbD 0 = b := bitArg_getLsbD b 0

/-- Of a byte, the address mask leaves bits 2 and 3 (R34). -/
theorem getLsbD_and_addressMask (a : Byte) (k : Nat) :
    (a &&& addressMask).getLsbD k = (a.getLsbD k && decide (k = 2 ∨ k = 3)) := by
  have mask : ∀ k < 8, addressMask.getLsbD k = decide (k = 2 ∨ k = 3) := by decide
  rw [BitVec.getLsbD_and]
  by_cases hk : k < 8
  · rw [mask k hk]
  · rw [BitVec.getLsbD_of_ge a k (Nat.le_of_not_lt hk), Bool.false_and, Bool.false_and]

/-- The bits of the `arg8` of `FORMAT_REQUEST`: the port, the direction and the two address bits (R66, R110). -/
theorem formatArg_getLsbD (p : Port) (r : Access) (a : Byte) (k : Nat) :
    (formatArg p r a).getLsbD k =
      ((a.getLsbD k && decide (k = 2 ∨ k = 3)) || (decide (k = 0) && bitOfPort p) ||
        (decide (k = 1) && bitOfAccess r)) := by
  have shifted : (bitArg (bitOfAccess r) <<< 1).getLsbD k = (decide (k = 1) && bitOfAccess r) := by
    rw [BitVec.getLsbD_shiftLeft, bitArg_getLsbD]
    rcases k with _ | _ | k <;> simp
  rw [formatArg, BitVec.getLsbD_or, BitVec.getLsbD_or, getLsbD_and_addressMask, bitArg_getLsbD, shifted]

/-- The `arg8` of `FORMAT_REQUEST` carries the address bits that reach a request where the address has them. -/
theorem formatArg_and_addressMask (p : Port) (r : Access) (a : Byte) :
    formatArg p r a &&& addressMask = a &&& addressMask := by
  apply BitVec.eq_of_getLsbD_eq
  intro k _
  rw [getLsbD_and_addressMask, getLsbD_and_addressMask, formatArg_getLsbD]
  by_cases hk : k = 2 ∨ k = 3
  · simp [hk, show k ≠ 0 by omega, show k ≠ 1 by omega]
  · simp [hk]

/-- Two bytes with the same low four bits hold the same operands of `FORMAT_REQUEST` (R66). -/
theorem getLsbD_of_low_eq {a b : Byte} (h : a.extractLsb' 0 4 = b.extractLsb' 0 4) {k : Nat} (hk : k < 4) :
    a.getLsbD k = b.getLsbD k := by
  have hbit := congrArg (BitVec.getLsbD · k) h
  simpa [BitVec.getLsbD_extractLsb', hk] using hbit

theorem and_addressMask_of_low_eq {a b : Byte} (h : a.extractLsb' 0 4 = b.extractLsb' 0 4) :
    a &&& addressMask = b &&& addressMask := by
  apply BitVec.eq_of_getLsbD_eq
  intro k _
  rw [getLsbD_and_addressMask, getLsbD_and_addressMask]
  by_cases hk : k < 4
  · rw [getLsbD_of_low_eq h hk]
  · simp [show ¬ (k = 2 ∨ k = 3) by omega]

/-! ### Request headers -/

/-- Whether a header has a row does not depend on the word that goes with it (R57). -/
theorem decodeRequest_isSome (b : RequestByte) (w : Word) : (decodeRequest b w).isSome = isRequest b := by
  unfold isRequest decodeRequest
  split <;> rfl

/-- A byte that is none of the headers is rejected by name (R69). -/
theorem decode_malformedRequest {b : RequestByte} (w : Word) (h : isRequest b = false) :
    decode (.request b w) = .error (.malformedRequest b) := by
  rw [← decodeRequest_isSome b w, Option.isSome_eq_false_iff, Option.isNone_iff_eq_none] at h
  simp only [decode, h]

/-- The formatter looks at the address field only, and each of its bytes has a row (R57, R110). -/
theorem isRequest_formatRequest (p : Port) (r : Access) (a : Byte) : isRequest (formatRequest p r a) = true := by
  unfold formatRequest
  generalize addressField a = field
  revert field
  cases p <;> cases r <;> decide

/-- A header is what the formatter makes of its own fields: the port in bit 1, the direction in bit 2, the address in
bits 3 and 4 (R51). -/
theorem formatRequest_of_isRequest {b : RequestByte} (h : isRequest b = true) :
    formatRequest (portOfBit (b.getLsbD 1)) (accessOfBit (b.getLsbD 2)) (b >>> 1) = b := by
  unfold isRequest decodeRequest at h
  split at h
  case h_17 => cases h
  all_goals rfl

/-- The header of each row of R57 decodes to the row. -/
theorem decode_readRow {r : Instr × Byte} (w : Word) (h : r ∈ readRows) : decode (.request r.2 w) = .ok r.1 := by
  fin_cases h <;> rfl

theorem decode_writeRow {r : Instr × Byte} {w : Word} (h : r ∈ writeRows w) : decode (.request r.2 w) = .ok r.1 := by
  fin_cases h <;> rfl

end Sys2Proof.Proofs
end

section
/-! SUPPORT. The laws of the parities and the cycle counts of the traces (R55, R61, R65). -/

namespace Sys2Proof.Proofs

open Sys2Proof Sys2Proof.Machine Sys2Proof.Safety Sys2Proof.Claims

/-! ### Parity -/

theorem evenParity_cons (b : Bit) (bits : List Bit) : evenParity (b :: bits) = (b ^^ evenParity bits) := by
  rw [evenParity, List.foldl_cons, foldl_xor_start, Bool.false_xor, evenParity]

/-- The parity bit says whether the number of ones is odd (D5). -/
theorem evenParity_eq_count (bits : List Bit) : evenParity bits = decide (bits.count true % 2 = 1) := by
  induction bits with
  | nil => rfl
  | cons b rest ih =>
    rw [evenParity_cons, ih]
    cases b
    · simp
    · rcases Nat.mod_two_eq_zero_or_one (rest.count true) with h | h <;> simp [Nat.add_mod, h]

/-- The parity of bits taken from two values bit by bit is that of the one and of the other. -/
theorem evenParity_map_xor (f g : Nat → Bit) (ks : List Nat) :
    evenParity (ks.map fun k => f k ^^ g k) = (evenParity (ks.map f) ^^ evenParity (ks.map g)) := by
  induction ks with
  | nil => rfl
  | cons k rest ih =>
    simp only [List.map_cons, evenParity_cons, ih, Bool.xor_assoc, Bool.xor_left_comm]

theorem par32_xor (v w : Word) : par32 (v ^^^ w) = (par32 v ^^ par32 w) := by
  simp only [par32, lsbBits, BitVec.getLsbD_xor, evenParity_map_xor]

/-- Of `1 <<< k` bit `k` alone is 1, so the number of ones is 1. -/
theorem par32_one_shiftLeft {k : Nat} (hk : k < 32) : par32 (1#32 <<< k) = true := by
  have bits : lsbBits (1#32 <<< k) = (List.range 32).map (· == k) := by
    apply List.map_congr_left
    intro i hi
    rw [List.mem_range] at hi
    rw [BitVec.getLsbD_shiftLeft, BitVec.getLsbD_one, Bool.eq_iff_iff]
    simp only [Bool.and_eq_true, Bool.not_eq_true', decide_eq_true_eq, decide_eq_false_iff_not, beq_iff_eq]
    omega
  have ones : ((List.range 32).map (· == k)).count true = (List.range 32).count k := by
    simp [List.count, List.countP_map, Function.comp_def]
  have once : (List.range 32).count k = 1 := List.count_eq_one_of_mem List.nodup_range (List.mem_range.2 hk)
  rw [par32, bits, evenParity_eq_count, ones, once]
  rfl

/-- The word with its parity bit has an even number of ones (R61). -/
theorem count_par32_cons (v : Word) : (par32 v :: lsbBits v).count true % 2 = 0 := by
  have even : evenParity (par32 v :: lsbBits v) = false := by rw [evenParity_cons, par32, Bool.xor_self]
  rw [evenParity_eq_count, decide_eq_false_iff_not] at even
  omega

/-! ### Cycle counts -/

/-- How many cycles, write cycles and read cycles a trace has. -/
def cycleCounts (tr : List Event) : Nat × Nat × Nat := (cycleCount tr, writeCount tr, readCount tr)

theorem cycleCounts_eq_iff (tr : List Event) (c w r : Nat) :
    cycleCounts tr = (c, w, r) ↔ cycleCount tr = c ∧ writeCount tr = w ∧ readCount tr = r := by
  simp [cycleCounts]

@[simp] theorem cycleCounts_append (a b : List Event) : cycleCounts (a ++ b) = cycleCounts a + cycleCounts b := by
  simp [cycleCounts, cycleCount, writeCount, readCount]

/-- Where every bit takes the same cycles, a run of bits takes them once for each. -/
theorem cycleCounts_flatMap {f : Bit → List Event} {c : Nat × Nat × Nat} (h : ∀ b, cycleCounts (f b) = c)
    (bits : List Bit) : cycleCounts (bits.flatMap f) = bits.length • c := by
  induction bits with
  | nil => exact (zero_nsmul c).symm
  | cons b rest ih => rw [List.flatMap_cons, cycleCounts_append, h, ih, List.length_cons, succ_nsmul']

@[simp] theorem cycleCounts_dir_cons (d : Dir) (tr : List Event) : cycleCounts (.dir d :: tr) = cycleCounts tr := by
  simp [cycleCounts, cycleCount, writeCount, readCount, Event.isRise, Event.isData, Event.isSample]

@[simp] theorem cycleCounts_turnCycle : cycleCounts turnCycle = (1, 0, 0) := rfl

@[simp] theorem cycleCounts_writeCycle (b : Bit) : cycleCounts (writeCycle b) = (1, 1, 0) := rfl

@[simp] theorem cycleCounts_readCycle (b : Bit) : cycleCounts (readCycle b) = (1, 0, 1) := rfl

@[simp] theorem cycleCounts_writeCycles (bits : List Bit) :
    cycleCounts (writeCycles bits) = bits.length • (1, 1, 0) := cycleCounts_flatMap cycleCounts_writeCycle bits

@[simp] theorem cycleCounts_readCycles (bits : List Bit) :
    cycleCounts (readCycles bits) = bits.length • (1, 0, 1) := cycleCounts_flatMap cycleCounts_readCycle bits

theorem cycleCounts_headerTrace (req : RequestByte) (ack : AckPattern) :
    cycleCounts (headerTrace req ack) = (12, 8, 3) := by
  simp [headerTrace]

theorem cycleCounts_nonOkTrace (req : RequestByte) (ack : AckPattern) :
    cycleCounts (nonOkTrace req ack) = (13, 9, 3) := by
  simp [nonOkTrace, cycleCounts_headerTrace]

theorem cycleCounts_readTrace (req : RequestByte) (ack : AckPattern) (v : Word) (p : Bit) :
    cycleCounts (readTrace req ack v p) = (47, 9, 36) := by
  simp [readTrace, cycleCounts_headerTrace]

theorem cycleCounts_writeTrace (req : RequestByte) (ack : AckPattern) (v : Word) :
    cycleCounts (writeTrace req ack v) = (47, 42, 3) := by
  simp [writeTrace, cycleCounts_headerTrace]

end Sys2Proof.Proofs
end

section
/-! SUPPORT. The request rows and the acknowledge rows as transactions (R57, R58, R91). -/

namespace Sys2Proof.Proofs

open Sys2Proof Sys2Proof.Machine Sys2Proof.Safety Sys2Proof.Claims

/-! ### Request rows -/

theorem exec_readRow {i : Instr} {h : RequestByte} (s : State) (hrow : (i, h) ∈ readRows) :
    exec i s = .next (transfer h 0 s) := by
  fin_cases hrow <;> rfl

theorem exec_writeRow {i : Instr} {h : RequestByte} {w : Word} (s : State) (hrow : (i, h) ∈ writeRows w) :
    exec i s = .next (transfer h w s) := by
  fin_cases hrow <;> rfl

/-! ### Acknowledge rows -/

theorem exec_ackRow {i : Instr} {p : AckPattern} (s : State) (hrow : (i, p) ∈ ackRows) :
    exec i s = .next (receiveAck p s) := by
  fin_cases hrow <;> rfl

/-- The state in which a transfer has received `p` in its acknowledge phase (R58, R91). -/
def afterAck (p : AckPattern) (s : State) : State :=
  { s with
    swclk := true
    ackraw := p
    phase := phaseAfterAck (requestReads s.req) p
    trace := s.trace ++ readCycles (lsbBits p) }

/-- The pattern is what the three samples see, and the script behind it stays for the data phase. -/
theorem ackPhase_of_pattern (p : AckPattern) {s : State} (hd : s.dir = .input) :
    ackPhase { s with env := lsbBits p ++ s.env } = afterAck p s := by
  let t : State := { s with env := lsbBits p ++ s.env }
  have received : t.nextAck = p := by
    have bits : t.answers 0 3 = lsbBits p := by
      simpa using answers_of_script (lsbBits p) s.env t rfl
    rw [State.nextAck, bits, packLsb_lsbBits]
  rw [ackPhase_eq t hd, received]
  simp [t, afterAck, State.afterSamples]

theorem receiveAck_eq_runPhases (p : AckPattern) {s : State} (hp : s.phase = .ack) (hd : s.dir = .input) :
    receiveAck p s = runPhases 6 (afterAck p s) := by
  rw [receiveAck, if_pos hp, ← ackPhase_of_pattern p hd, resume, maxPhases, runPhases, phaseStep]
  simp [hp]

/-- A transfer that has ended after four phases stays as it is for the two phases it is given beyond them. -/
theorem runPhases_six_of_four {s u : State} (h : runPhases 4 s = idleBitPhase u) : runPhases 6 s = idleBitPhase u := by
  rw [runPhases_add 4 2, h, runPhases_idle 2 _ rfl]

/-- Without an OK the data registers and the direction play no part in the outcome (R91). -/
theorem transferOutcome_of_nonOk {p : AckPattern} (h : ackClass p ≠ .ok) (reads : Bool) (dsr : Word) (parrx : Bit) :
    transferOutcome reads p dsr parrx = { ack := ackClass p, data := none, parityOk := true } := by
  unfold transferOutcome
  cases hc : ackClass p with
  | ok => exact absurd hc h
  | wait | fault | protocolError => rfl

theorem receiveAck_of_nonOk {p : AckPattern} {s : State} (hp : s.phase = .ack) (hd : s.dir = .input)
    (h : ackClass p ≠ .ok) : receiveAck p s = afterPattern p s := by
  have ended : (afterAck p s).phase = .idleBit := by simp [afterAck, phaseAfterAck_eq, phaseArrows, h]
  rw [receiveAck_eq_runPhases p hp hd, runPhases_of_idleBit 5 ended, idleBitPhase_eq]
  ext1 <;> simp [afterAck, afterPattern, dataPhaseDrove, Config.idleValue, transferOutcome_of_nonOk h, h]

theorem receiveAck_of_read {p : AckPattern} {s : State} (hp : s.phase = .ack) (hd : s.dir = .input)
    (h : ackClass p = .ok) (hr : requestReads s.req = true) : receiveAck p s = afterPattern p s := by
  have begun : (afterAck p s).phase = .dataRd := by simp [afterAck, phaseAfterAck_eq, phaseArrows, h, hr]
  have bits : (afterAck p s).answers 0 32 = s.answers 0 32 := answers_congr rfl rfl 0 32
  have parity : (afterAck p s).answer 32 = s.answer 32 := answer_congr rfl rfl 32
  rw [afterPattern, if_pos h, ← requestReads_eq, if_pos hr, receiveAck_eq_runPhases p hp hd,
    runPhases_six_of_four (runPhases_of_dataRd begun hd hr), idleBitPhase_eq, bits, parity]
  ext1 <;> simp [afterAck, dataPhaseDrove, transferOutcome, State.afterSamples, Config.idleValue, h, hr]

theorem receiveAck_of_write {p : AckPattern} {s : State} (hp : s.phase = .ack) (hd : s.dir = .input)
    (h : ackClass p = .ok) (hr : requestReads s.req = false) : receiveAck p s = afterPattern p s := by
  have begun : (afterAck p s).phase = .trn2 := by simp [afterAck, phaseAfterAck_eq, phaseArrows, h, hr]
  rw [afterPattern, if_pos h, ← requestReads_eq, if_neg (Bool.not_eq_true _ ▸ hr), receiveAck_eq_runPhases p hp hd,
    runPhases_six_of_four (runPhases_of_trn2_write begun hr), idleBitPhase_eq]
  ext1 <;> simp [afterAck, dataPhaseDrove, transferOutcome, Config.idleValue, h, hr]

/-- In its acknowledge phase a transfer that receives a pattern runs to the end the pattern determines (R58, R91). -/
theorem receiveAck_eq_afterPattern (p : AckPattern) {s : State} (hp : s.phase = .ack) (hd : s.dir = .input) :
    receiveAck p s = afterPattern p s := by
  by_cases hok : ackClass p = .ok
  · cases hr : requestReads s.req
    · exact receiveAck_of_write hp hd hok hr
    · exact receiveAck_of_read hp hd hok hr
  · exact receiveAck_of_nonOk hp hd hok

end Sys2Proof.Proofs
end

section
/-! SUPPORT. The statements about the encoding (30_encoding.md), settled. -/

namespace Sys2Proof.Proofs

open Sys2Proof Sys2Proof.Machine Sys2Proof.Safety Sys2Proof.Claims

/-- Settles O2: a command is read back from the fields its word was made of, a header or pattern from its table. -/
theorem decodeOfEncode : Obligations.DecodeOfEncode := by
  intro i hwf
  cases i with
  | setDir d => rw [encode, decode_setDirWord, bitArg_getLsbD_zero, dirOfBit_bitOfDir]
  | writeBit b => rw [encode, decode_writeBitWord, bitArg_getLsbD_zero]
  | formatRequest p r a =>
    have haddr : a &&& addressMask = a := by simpa [Instr.wellFormed, addressAligned] using hwf
    have hport : (formatArg p r a).getLsbD 0 = bitOfPort p := by rw [formatArg_getLsbD]; simp
    have haccess : (formatArg p r a).getLsbD 1 = bitOfAccess r := by rw [formatArg_getLsbD]; simp
    rw [encode, decode_formatRequestWord, hport, haccess, formatArg_and_addressMask, haddr, portOfBit_bitOfPort,
      accessOfBit_bitOfAccess]
  | readBit | writeByte | readByte | lineReset | transfer => simp [encode]
  | dpRead | dpWrite | apRead | apWrite => simp [encode]
  | reservedC | reservedD | reservedE | reservedF => simp [encode]
  | _ => rfl

/-- Settles O3: the equation of each code names only the fields that its row reads. -/
theorem unusedCommandBitsIgnored : Obligations.UnusedCommandBitsIgnored := by
  intro a a' w w'
  refine ⟨fun op hop hbit => ?_, fun op hop => ?_, fun op hop => ?_, fun hlow => ?_⟩
  · fin_cases hop
    · rw [decode_setDirWord, decode_setDirWord, hbit]
    · rw [decode_writeBitWord, decode_writeBitWord, hbit]
  · fin_cases hop <;> simp
  · fin_cases hop <;> simp
  · rw [decode_formatRequestWord, decode_formatRequestWord, getLsbD_of_low_eq hlow (by decide),
      getLsbD_of_low_eq hlow (by decide), and_addressMask_of_low_eq hlow]

/-- Settles O5: the formatter's bytes all have a row, a header is made of its own fields, and a byte without a row is
rejected. -/
theorem formatterMakesTheRequestRows : Obligations.FormatterMakesTheRequestRows := by
  refine ⟨fun b => ⟨fun h => ⟨_, _, _, (formatRequest_of_isRequest h).symm⟩, ?_⟩,
    fun b w => decode_malformedRequest w, fun r w h => ?_⟩
  · rintro ⟨p, r, a, rfl⟩
    exact isRequest_formatRequest p r a
  · rcases List.mem_append.1 h with hread | hwrite
    · exact decode_readRow w hread
    · exact decode_writeRow hwrite

/-- Settles O7: the parity of an exclusive or is that of its two words, and says whether the number of ones is odd. -/
theorem dataParityLaws : Obligations.DataParityLaws := by
  refine ⟨by decide, by decide, par32_xor, fun v k hk => ?_, count_par32_cons⟩
  rw [par32_xor, par32_one_shiftLeft hk, Bool.xor_true]

/-- Settles O40: each row runs the transfer of its header. -/
theorem requestRowsAreTransactions : Obligations.RequestRowsAreTransactions := by
  refine ⟨fun i h s hrow => ?_, fun i h w s hrow => ?_⟩
  · rw [exec_readRow s hrow, transfer_eq_afterTransfer]
  · rw [exec_writeRow s hrow, transfer_eq_afterTransfer]

/-- Settles O41: each row hands its pattern to the transfer under way, whose last phases then run as in any transfer. -/
theorem ackRowsFinishTheTransfer : Obligations.AckRowsFinishTheTransfer := by
  intro i p s hrow hp hd
  rw [exec_ackRow s hrow, receiveAck_eq_afterPattern p hp hd]

/-- Settles O1: the decoder evaluates each literal. -/
theorem writtenWordsDecode : Obligations.WrittenWordsDecode :=
  ⟨rfl, rfl, rfl, rfl, rfl, rfl, rfl, rfl, rfl, rfl⟩

/-- Settles O4: the equations of the twelve operation codes. -/
theorem commandCodesNameOperations : Obligations.CommandCodesNameOperations := fun a w =>
  ⟨decode_setDirWord a w, decode_writeBitWord a w, decode_readBitWord a w, decode_writeByteWord a w,
    decode_readByteWord a w, decode_lineResetWord a w, decode_transferWord a w,
    addressMask_eq ▸ decode_formatRequestWord a w, decode_dpReadWord a w, decode_dpWriteWord a w, decode_apReadWord a w,
    decode_apWriteWord a w⟩

/-- Settles O8: a pattern that is none of the three codes fails the three tests of `ackClass`. -/
theorem ackClassification : Obligations.AckClassification := by
  refine ⟨rfl, rfl, rfl, fun x hx => ?_, rfl, rfl, rfl, rfl, rfl, rfl, rfl, rfl⟩
  obtain ⟨hok, hwait, hfault⟩ : x ≠ Config.ackOk ∧ x ≠ Config.ackWait ∧ x ≠ Config.ackFault := by
    simpa [Config.ackOk, Config.ackWait, Config.ackFault] using hx
  rw [ackClass, if_neg hok, if_neg hwait, if_neg hfault]

/-- Settles O19: a reserved code decodes to its reserved row, which is refused. -/
theorem reservedCodesAreRefused : Obligations.ReservedCodesAreRefused := by
  refine ⟨fun s => ⟨rfl, rfl, rfl, rfl⟩, fun op a w s rest hop hidle hin => ?_⟩
  have haccepts : accepts (.command (commandWord op a w)) s = true := by simp [accepts, hidle]
  fin_cases hop
  · exact stepRunsTheDecodedInstruction _ rest _ s hin (decode_reservedCWord a w) haccepts
  · exact stepRunsTheDecodedInstruction _ rest _ s hin (decode_reservedDWord a w) haccepts
  · exact stepRunsTheDecodedInstruction _ rest _ s hin (decode_reservedEWord a w) haccepts
  · exact stepRunsTheDecodedInstruction _ rest _ s hin (decode_reservedFWord a w) haccepts

/-- Settles O26: the counts of the parts of each trace, added up. -/
theorem transactionCycleCounts : Obligations.TransactionCycleCounts := by
  intro req ack v p
  obtain ⟨nonOkTotal, nonOkWrites, nonOkReads⟩ := (cycleCounts_eq_iff ..).1 (cycleCounts_nonOkTrace req ack)
  obtain ⟨readTotal, readWrites, readReads⟩ := (cycleCounts_eq_iff ..).1 (cycleCounts_readTrace req ack v p)
  obtain ⟨writeTotal, writeWrites, writeReads⟩ := (cycleCounts_eq_iff ..).1 (cycleCounts_writeTrace req ack v)
  exact ⟨nonOkTotal, nonOkWrites, nonOkReads, readTotal, readWrites, readReads, writeTotal, writeWrites, writeReads⟩

end Sys2Proof.Proofs
end

section
/-! SUPPORT. What the operations of the Bit-Link answer, and what a step refuses (R80 to R86). -/

namespace Sys2Proof.Proofs

open Sys2Proof Sys2Proof.Machine Sys2Proof.Safety Sys2Proof.Claims

/-! ### The state an accepted operation answers -/

theorem exec_writeBit (b : Bit) {s : State} (h : DirectionAccepted .output s) :
    exec (.writeBit b) s = .next ((writeBit b s).respond .nothing) :=
  requireDir_next h

theorem exec_readBit {s : State} (h : DirectionAccepted .input s) :
    exec .readBit s = .next ((readBit s).2.respond (.bit (readBit s).1)) :=
  requireDir_next h

theorem exec_writeByte (v : Byte) {s : State} (h : DirectionAccepted .output s) :
    exec (.writeByte v) s = .next ((writeValue v s).respond .nothing) :=
  requireDir_next h

theorem exec_readByte {s : State} (h : DirectionAccepted .input s) :
    exec .readByte s = .next ((readValue 8 s).2.respond (.byte (readValue 8 s).1)) :=
  requireDir_next h

/-- A write cycle: the data level first, then the pulse (R81). -/
theorem writeBit_eq (b : Bit) (s : State) :
    writeBit b s = { s with dout := b, swclk := true, trace := s.trace ++ writeCycle b } := by
  simpa [writeBits, writeCycles] using writeBits_eq [b] s

/-- A value read from a driven line is made of free bits (U2). -/
theorem readValue_output (n : Nat) (s : State) (h : s.dir = .output) (hn : n ≠ 0) :
    readValue n s =
      (packLsb n (s.drivenSamples n),
        { s with
          swclk := true
          draws := s.draws + n
          trace := s.trace ++ readCycles (s.drivenSamples n) }) := by
  simp [readValue, readBits_output n s h, hn]

/-! ### The eight bits of a byte -/

/-- A byte goes on the wire as eight cycles of one kind, `v[0]` first (R83, R84). -/
theorem append_flatMap_lsbBits (tr : List Event) (cycle : Bit → List Event) (v : Byte) :
    tr ++ (lsbBits v).flatMap cycle =
      tr ++ cycle (v.getLsbD 0) ++ cycle (v.getLsbD 1) ++ cycle (v.getLsbD 2) ++ cycle (v.getLsbD 3) ++
        cycle (v.getLsbD 4) ++ cycle (v.getLsbD 5) ++ cycle (v.getLsbD 6) ++ cycle (v.getLsbD 7) := by
  have hbits : lsbBits v = [v.getLsbD 0, v.getLsbD 1, v.getLsbD 2, v.getLsbD 3, v.getLsbD 4, v.getLsbD 5, v.getLsbD 6,
    v.getLsbD 7] := rfl
  simp [hbits]

/-- Bit `k` of a value packed from the answers is the `k`-th answer (R32, R84). -/
theorem packLsb_answers_getLsbD {n k : Nat} (hk : k < n) (s : State) :
    (packLsb n (s.answers 0 n)).getLsbD k = s.answer k := by
  rw [packLsb_getLsbD]
  simp [State.answers, hk]

/-! ### Event counts -/

theorem writeCycles_length (bits : List Bit) : (writeCycles bits).length = 3 * bits.length := by
  simp [writeCycles, writeCycle, List.length_flatMap, Nat.mul_comm]

theorem readCycles_length (bits : List Bit) : (readCycles bits).length = 3 * bits.length := by
  simp [readCycles, readCycle, List.length_flatMap, Nat.mul_comm]

/-- Whatever the direction, reading a value appends three events for each bit (R85). -/
theorem readValue_events (n : Nat) (s : State) :
    ∃ ev, (readValue n s).2.trace = s.trace ++ ev ∧ ev.length = 3 * n := by
  obtain ⟨bits, env, draws, hlen, hread⟩ := readBits_shape n s
  exact ⟨readCycles bits, by rw [readValue, hread], by rw [readCycles_length, hlen]⟩

/-! ### Steps that are refused -/

/-- While a transfer is under way the block accepts nothing but an acknowledge pattern (R86). -/
theorem accepts_eq_false {f : Frame} {s : State} (hf : ∀ p, f ≠ .ack p) (hp : s.phase ≠ .idle) :
    accepts f s = false := by
  cases f with
  | command c => simp [accepts, hp]
  | request header d => simp [accepts, hp]
  | ack p => exact absurd rfl (hf p)

end Sys2Proof.Proofs
end

section
/-! SUPPORT. The statements about the Bit-Link (40_bitlink.md), settled. -/

namespace Sys2Proof.Proofs

open Sys2Proof Sys2Proof.Machine Sys2Proof.Safety Sys2Proof.Claims

/-- Settles O11: `writeValue` sends the bits of the byte in order, which are eight. -/
theorem writeByteIsEightCycles : Obligations.WriteByteIsEightCycles := by
  refine ⟨fun v s hdir => ?_, decode_writeByteWord⟩
  rw [exec_writeByte v hdir, writeValue_eq, writeCycles, append_flatMap_lsbBits]
  rfl

/-- Settles O13: the byte is the one packed from the environment's next eight answers, whose bits are those answers. -/
theorem readByteIsEightCycles : Obligations.ReadByteIsEightCycles := by
  refine ⟨fun s hdir => ⟨packLsb 8 (s.answers 0 8), fun k hk => packLsb_answers_getLsbD hk s, ?_⟩, decode_readByteWord⟩
  have htrace := append_flatMap_lsbBits s.trace readCycle (packLsb 8 (s.answers 0 8))
  rw [lsbBits_packLsb _ (answers_length 0 8 s)] at htrace
  rw [exec_readByte (.inr hdir), readValue_input 8 s hdir (by decide), readCycles, htrace]
  rfl

/-- Settles O14: without the check both operations run, and read the free bits of a driven line. -/
theorem readWhileDrivingIsUnspecified : Obligations.ReadWhileDrivingIsUnspecified := by
  intro s hdir hchecks
  constructor
  · rw [exec_readBit (.inl hchecks), readBit_output s hdir]
    rfl
  · rw [exec_readByte (.inl hchecks), readValue_output 8 s hdir (by decide)]
    rfl

/-- Settles O15: one event for the direction, three for each bit written or read. -/
theorem bitLinkEventCounts : Obligations.BitLinkEventCounts := by
  intro s hchecks
  refine ⟨fun d => ?setDir, fun b => ?writeBit, ?readBit, fun v => ?writeByte, ?readByte⟩
  case setDir => exact ⟨_, [.dir d], rfl, rfl, rfl⟩
  case writeBit => exact ⟨_, writeCycle b, exec_writeBit b (.inl hchecks), writeBit_trace b s, rfl⟩
  case readBit =>
    obtain ⟨bit, env, draws, hread⟩ := readBit_shape s
    exact ⟨_, readCycle bit, exec_readBit (.inl hchecks), by rw [respond_trace, hread], rfl⟩
  case writeByte =>
    exact ⟨_, writeCycles (lsbBits v), exec_writeByte v (.inl hchecks), by rw [respond_trace, writeValue_eq],
      by simp [writeCycles_length]⟩
  case readByte =>
    obtain ⟨ev, htrace, hlen⟩ := readValue_events 8 s
    exact ⟨_, ev, exec_readByte (.inl hchecks), htrace, hlen⟩

/-- Settles O9: the operation is the primitive `setDir` with its response, and the pin follows `DIR`. -/
theorem setDirSwitches : Obligations.SetDirSwitches :=
  ⟨fun _ _ => rfl, fun _ => ⟨_, rfl, rfl⟩, fun _ => ⟨_, rfl, rfl⟩⟩

/-- Settles O10: the write cycle of one bit. -/
theorem writeBitIsOneCycle : Obligations.WriteBitIsOneCycle := by
  intro b s hdir
  rw [exec_writeBit b hdir, writeBit_eq]
  rfl

/-- Settles O12: the read cycle of a released line, whose bit is the environment's next answer. -/
theorem readBitSamplesTheLine : Obligations.ReadBitSamplesTheLine := by
  intro s hdir
  rw [exec_readBit (.inr hdir), readBit_input s hdir]
  rfl

/-- Settles O55: a command or header that decodes is not accepted during a transfer, a malformed header does not
decode. -/
theorem stepRefusesWhatItCannotTake : Obligations.StepRefusesWhatItCannotTake := by
  refine ⟨fun f rest i s hinbox hdecode hf hphase => ?_, fun header d rest s hinbox hmalformed => ?_⟩
  · simp [step, hinbox, hdecode, accepts_eq_false hf hphase]
  · simp [step, hinbox, decode_malformedRequest d hmalformed]

end Sys2Proof.Proofs
end

section
/-! SUPPORT. The sequence of R91 as it is written, phase by phase, and the transfer whose acknowledge is a pattern on the
line (R58, R91). -/

namespace Sys2Proof.Proofs

open Sys2Proof Sys2Proof.Machine Sys2Proof.Safety Sys2Proof.Claims

/-- A request byte that is accepted is sent, with whatever operand (R69). -/
theorem exec_transfer {req : RequestByte} (w : Word) {s : State} (h : RequestAccepted req s) :
    exec (.transfer req w) s = .next (transfer req w s) :=
  requireRequest_next h

/-! ### R91 as it is written -/

/-- The common start of R91 is the first three phases; only the name of the next phase is not yet set. -/
theorem writtenHeader_eq (req : RequestByte) (w : Word) (s : State) :
    writtenHeader req w s = (afterHeader req w s).enter .ack := by
  let t : State := firstTurnPhase (requestPhase (startTransfer req w s))
  have header : writtenHeader req w s = { (readBits 3 t).2 with ackraw := packLsb 3 (readBits 3 t).1 } := by
    simp only [t, writtenHeader, readBits, firstTurnPhase, requestPhase, startTransfer, requestReads_eq]
    rfl
  have received : afterHeader req w s = ackPhase t := (runPhases_startTransfer req w s).symm
  obtain ⟨bits, env, draws, -, hread⟩ := readBits_shape 3 t
  rw [header, received, ackPhase, readValue, hread]
  simp [t, firstTurnPhase_eq, State.enter]

/-- The switch to `Output`, the idle bit and the response `r`: the end of a transfer whose data phase did not drive. -/
def switchedEnd (r : TransferResult) (s : State) : State :=
  (((writeBit false (setDir .output s)).enter .idle).respondResult r).releaseScratch

theorem idleBitPhase_eq_switchedEnd {s : State} (h : dataPhaseDrove s = false) :
    idleBitPhase s = switchedEnd (transferOutcome (requestReads s.req) s.ackraw s.dsr s.parrx) s := by
  rw [idleBitPhase, h]
  rfl

/-- The end of R91 without an OK is the idle bit (R93). -/
theorem writtenNonOkEnd_eq {s : State} (h : ackClass s.ackraw ≠ .ok) :
    writtenNonOkEnd (ackClass s.ackraw) s = idleBitPhase (s.enter .idleBit) := by
  have released : dataPhaseDrove (s.enter .idleBit) = false := by simp [dataPhaseDrove, h]
  rw [idleBitPhase_eq_switchedEnd released, enter_ackraw, transferOutcome_of_nonOk h]
  rfl

/-- The outcome of a read whose acknowledge is OK turns on its parity (R95). -/
theorem transferOutcome_of_read {p : AckPattern} (h : ackClass p = .ok) (dsr : Word) (parrx : Bit) :
    transferOutcome true p dsr parrx =
      if parrx == par32 dsr then { ack := .ok, data := some dsr, parityOk := true }
      else { ack := .protocolError, data := none, parityOk := false } := by
  simp [transferOutcome, h]

theorem MovesBits.ackraw_eq {s u : State} (h : MovesBits s u) : u.ackraw = s.ackraw := by rw [h.frame]

/-- The state in which a read has received its word and its parity (R91). -/
def afterReadData (s : State) : State := parityReadPhase (dataReadPhase (s.enter .dataRd))

theorem afterReadData_req (s : State) : (afterReadData s).req = s.req :=
  (movesBits_readBit (dataReadPhase (s.enter .dataRd))).req_eq.trans (movesBits_readBits 32 (s.enter .dataRd)).req_eq

theorem afterReadData_ackraw (s : State) : (afterReadData s).ackraw = s.ackraw :=
  (movesBits_readBit (dataReadPhase (s.enter .dataRd))).ackraw_eq.trans
    (movesBits_readBits 32 (s.enter .dataRd)).ackraw_eq

/-- The end of R91 for a read, as it is written: the word, its parity, a turnaround, and the end that the parity decides
(R95). -/
theorem writtenReadEnd_eq_switchedEnd (s : State) :
    writtenReadEnd s =
      switchedEnd
        (if (afterReadData s).parrx == par32 (afterReadData s).dsr then
          { ack := .ok, data := some (afterReadData s).dsr, parityOk := true }
        else { ack := .protocolError, data := none, parityOk := false })
        (secondTurnPhase (afterReadData s)) := by
  rcases hword : readBits 32 (s.enter .dataRd) with ⟨bits, x⟩
  rcases hparity : readBit (State.enter .parRd { x with dsr := packLsb 32 bits }) with ⟨p, y⟩
  have word : dataReadPhase (s.enter .dataRd) = State.enter .parRd { x with dsr := packLsb 32 bits } := by
    rw [dataReadPhase, readValue, hword]
    rfl
  have received : afterReadData s = { y with parrx := p, phase := .trn2 } := by
    rw [afterReadData, word, parityReadPhase, hparity]
  rw [received]
  simp only [writtenReadEnd, hword, hparity]
  split <;> rfl

/-- The end of R91 for a read is the phases of its data and the idle bit (R95). -/
theorem writtenReadEnd_eq {s : State} (h : ackClass s.ackraw = .ok) (hr : requestReads s.req = true) :
    writtenReadEnd s = runPhases 4 (s.enter .dataRd) := by
  let u : State := afterReadData s
  have hreq : requestReads u.req = true := by rw [afterReadData_req]; exact hr
  have hack : ackClass u.ackraw = .ok := by rw [afterReadData_ackraw]; exact h
  have ended : (secondTurnPhase u).phase = .idleBit := by simp [secondTurnPhase, hreq]
  have released : dataPhaseDrove (secondTurnPhase u) = false := by simp [secondTurnPhase, dataPhaseDrove, hreq]
  have phases : runPhases 4 (s.enter .dataRd) = idleBitPhase (secondTurnPhase u) := phaseStep_of_idleBit ended
  rw [writtenReadEnd_eq_switchedEnd, phases, idleBitPhase_eq_switchedEnd released]
  simp only [secondTurnPhase, enter_req, enter_ackraw, enter_dsr, enter_parrx, turn_req, turn_ackraw, turn_dsr,
    turn_parrx, hreq, transferOutcome_of_read hack, u]

/-- The end of R91 for a write is the phases of its data and the idle bit (R96). -/
theorem writtenWriteEnd_eq {s : State} (h : ackClass s.ackraw = .ok) (hr : requestReads s.req = false) :
    writtenWriteEnd s.wdata s = runPhases 4 (s.enter .trn2) := by
  rw [runPhases_of_trn2_write (s := s.enter .trn2) rfl hr, idleBitPhase_eq]
  simp only [writtenWriteEnd, writeBits_eq]
  ext1 <;> simp [dataPhaseDrove, transferOutcome, Config.idleValue, turnCycle, h, hr, lsbBits_ne_nil]

/-- The two decisions of R91 (R92). -/
theorem writtenTransfer_eq (req : RequestByte) (w : Word) (s : State) :
    writtenTransfer req w s =
      if ackClass s.nextAck = .ok then
        if requestReads req then writtenReadEnd ((afterHeader req w s).enter .ack)
        else writtenWriteEnd w ((afterHeader req w s).enter .ack)
      else writtenNonOkEnd (ackClass s.nextAck) ((afterHeader req w s).enter .ack) := by
  have hack : ((afterHeader req w s).enter .ack).ackraw = s.nextAck := rfl
  rw [writtenTransfer, writtenHeader_eq, hack, requestReads_eq]
  cases ackClass s.nextAck <;> rfl

/-- A transfer that has received its acknowledge stands in the phase that its two decisions say (R92). -/
theorem afterHeader_enter {req : RequestByte} {w : Word} {s : State} {p q : Phase}
    (h : phaseAfterAck (requestReads req) s.nextAck = p) :
    ((afterHeader req w s).enter q).enter p = afterHeader req w s := by
  rw [← h]
  rfl

theorem writtenTransfer_of_nonOk (req : RequestByte) (w : Word) {s : State} (h : ackClass s.nextAck ≠ .ok) :
    writtenTransfer req w s = runPhases 4 (afterHeader req w s) := by
  have ended : phaseAfterAck (requestReads req) s.nextAck = .idleBit := by simp [phaseAfterAck_eq, phaseArrows, h]
  have written := writtenNonOkEnd_eq (s := (afterHeader req w s).enter .ack) h
  rw [afterHeader_enter ended] at written
  rw [writtenTransfer_eq, if_neg h, runPhases_of_idleBit 3 ended]
  exact written

theorem writtenTransfer_of_read {req : RequestByte} (w : Word) {s : State} (h : ackClass s.nextAck = .ok)
    (hr : requestReads req = true) : writtenTransfer req w s = runPhases 4 (afterHeader req w s) := by
  have begun : phaseAfterAck (requestReads req) s.nextAck = .dataRd := by simp [phaseAfterAck_eq, phaseArrows, h, hr]
  have written := writtenReadEnd_eq (s := (afterHeader req w s).enter .ack) h hr
  rw [writtenTransfer_eq, if_pos h, if_pos hr, written, afterHeader_enter begun]

theorem writtenTransfer_of_write {req : RequestByte} (w : Word) {s : State} (h : ackClass s.nextAck = .ok)
    (hr : requestReads req = false) : writtenTransfer req w s = runPhases 4 (afterHeader req w s) := by
  have begun : phaseAfterAck (requestReads req) s.nextAck = .trn2 := by simp [phaseAfterAck_eq, phaseArrows, h, hr]
  have hwdata : ((afterHeader req w s).enter .ack).wdata = w := by simp [afterHeader, hr]
  have written := writtenWriteEnd_eq (s := (afterHeader req w s).enter .ack) h hr
  rw [hwdata, afterHeader_enter begun] at written
  rw [writtenTransfer_eq, if_pos h, hr]
  exact written

/-! ### A pattern on the line (log entry 10) -/

/-- The request phase and the first turnaround take nothing from the script of answers. -/
theorem toAckPhase_withEnv (req : RequestByte) (w : Word) (env : List Bit) (s : State) :
    firstTurnPhase (requestPhase (startTransfer req w { s with env := env })) =
      { firstTurnPhase (requestPhase (startTransfer req w s)) with env := env } := by
  rw [firstTurnPhase_eq, firstTurnPhase_eq, requestPhase_eq, requestPhase_eq]
  rfl

/-- From its acknowledge phase a transfer has no more than five phases to run (R18). -/
theorem resume_of_ack {s : State} (h : s.phase = .ack) : resume s = runPhases 5 s := by
  obtain ⟨u, hu⟩ := runPhases_ends 5 s (by simp [h]) (by simp [h, phasesLeft])
  rw [resume, maxPhases, runPhases_add 5 2, hu, runPhases_idle 2 _ rfl]

/-- A transfer that is answered `p` is its header and then the pattern `p` in its acknowledge phase (R58, R91). -/
theorem transfer_withPattern (req : RequestByte) (w : Word) (p : AckPattern) (s : State) :
    transfer req w { s with env := lsbBits p ++ s.env } =
      receiveAck p (firstTurnPhase (requestPhase (startTransfer req w s))) := by
  have header (t : State) :
      transfer req w t = runPhases 5 (firstTurnPhase (requestPhase (startTransfer req w t))) := rfl
  have received :
      receiveAck p (firstTurnPhase (requestPhase (startTransfer req w s))) =
        resume { firstTurnPhase (requestPhase (startTransfer req w s)) with env := lsbBits p ++ s.env } := by
    rw [receiveAck, if_pos (by rfl), firstTurnPhase_eq, requestPhase_eq]
    rfl
  rw [header, toAckPhase_withEnv, received, resume_of_ack (by rfl)]

end Sys2Proof.Proofs
end

section
/-! SUPPORT. What a transfer and a line reset add to the trace and how a transfer leaves the line (R64, R65, R94,
R99). -/

namespace Sys2Proof.Proofs

open Sys2Proof Sys2Proof.Machine Sys2Proof.Safety Sys2Proof.Claims

/-! ### The events of a transaction -/

theorem cycleCount_of_cycleCounts {tr : List Event} {c w r : Nat} (h : cycleCounts tr = (c, w, r)) :
    cycleCount tr = c :=
  ((cycleCounts_eq_iff tr c w r).1 h).1

theorem readCount_of_cycleCounts {tr : List Event} {c w r : Nat} (h : cycleCounts tr = (c, w, r)) :
    readCount tr = r := by
  obtain ⟨-, -, hreads⟩ := (cycleCounts_eq_iff tr c w r).1 h
  exact hreads

/-- The events that a transfer begun in `s` adds to the trace, whichever of the three shapes they take (R65). -/
def transferTrace (req : RequestByte) (w : Word) (s : State) : List Event :=
  if ackClass s.nextAck = .ok then
    if req.getLsbD 2 then readTrace req s.nextAck s.nextWord s.nextParity else writeTrace req s.nextAck w
  else nonOkTrace req s.nextAck

theorem transfer_trace (req : RequestByte) (w : Word) (s : State) :
    (transfer req w s).trace = s.trace ++ transferTrace req w s := by
  rw [transfer_eq_afterTransfer, afterTransfer, transferTrace]
  split
  · split <;> rfl
  · rfl

theorem cycleCount_transferTrace_le (req : RequestByte) (w : Word) (s : State) :
    cycleCount (transferTrace req w s) ≤ 47 := by
  unfold transferTrace
  split
  · split
    · exact (cycleCount_of_cycleCounts (cycleCounts_readTrace ..)).le
    · exact (cycleCount_of_cycleCounts (cycleCounts_writeTrace ..)).le
  · exact (cycleCount_of_cycleCounts (cycleCounts_nonOkTrace ..)).trans_le (by decide)

/-- Every transaction begins with the request, the switch and the acknowledge bits (R50). -/
theorem transferTrace_header (req : RequestByte) (w : Word) (s : State) :
    ∃ rest, transferTrace req w s = headerTrace req s.nextAck ++ rest := by
  unfold transferTrace
  split
  · split
    · exact ⟨_, by simp only [readTrace, List.append_assoc]; rfl⟩
    · exact ⟨_, by simp only [writeTrace, List.append_assoc]; rfl⟩
  · exact ⟨_, by simp only [nonOkTrace, List.append_assoc]; rfl⟩

/-! ### Data driven and line sampled -/

@[simp] theorem wellDriven_dir_cons (d d' : Dir) (tr : List Event) :
    wellDriven d (.dir d' :: tr) = wellDriven d' tr := rfl

@[simp] theorem wellDriven_turnCycle_append (d : Dir) (tr : List Event) :
    wellDriven d (turnCycle ++ tr) = wellDriven d tr := rfl

@[simp] theorem wellDriven_writeCycle_append (b : Bit) (tr : List Event) :
    wellDriven .output (writeCycle b ++ tr) = wellDriven .output tr := rfl

@[simp] theorem wellDriven_readCycle_append (b : Bit) (tr : List Event) :
    wellDriven .input (readCycle b ++ tr) = wellDriven .input tr := rfl

@[simp] theorem wellDriven_writeCycles_append (bits : List Bit) (tr : List Event) :
    wellDriven .output (writeCycles bits ++ tr) = wellDriven .output tr := by
  induction bits with
  | nil => rfl
  | cons b rest ih => exact ih

@[simp] theorem wellDriven_readCycles_append (bits : List Bit) (tr : List Event) :
    wellDriven .input (readCycles bits ++ tr) = wellDriven .input tr := by
  induction bits with
  | nil => rfl
  | cons b rest ih => exact ih

@[simp] theorem wellDriven_writeCycles (bits : List Bit) : wellDriven .output (writeCycles bits) = true := by
  simpa [wellDriven] using wellDriven_writeCycles_append bits []

@[simp] theorem wellDriven_writeCycle (b : Bit) : wellDriven .output (writeCycle b) = true := rfl

/-- Every transaction switches to `Output` before it drives and to `Input` before it samples (R99). -/
theorem wellDriven_transferTrace (d : Dir) (req : RequestByte) (w : Word) (s : State) :
    wellDriven d (transferTrace req w s) = true := by
  unfold transferTrace
  split
  · split
    · simp [readTrace, headerTrace]
    · simp [writeTrace, headerTrace]
  · simp [nonOkTrace, headerTrace]

/-- The line reset switches to `Output` before it drives (R90, R99). -/
theorem wellDriven_lineResetTrace (d : Dir) (n : Nat) : wellDriven d (lineResetTrace n) = true := by
  simp [lineResetTrace, lineResetPassTrace, Config.lineResetPasses, List.replicate]

/-- After a well driven trace another may follow that is well driven from every direction. -/
theorem wellDriven_append {d : Dir} {a b : List Event} (ha : wellDriven d a = true)
    (hb : ∀ d', wellDriven d' b = true) : wellDriven d (a ++ b) = true := by
  induction a generalizing d with
  | nil => exact hb d
  | cons e rest ih =>
    cases e with
    | dir d' => exact ih ha
    | clk l => exact ih ha
    | data b | sample b =>
      rw [wellDriven, Bool.and_eq_true] at ha
      obtain ⟨hdir, hrest⟩ := ha
      rw [List.cons_append, wellDriven, hdir, ih hrest]
      rfl

/-! ### Line reset -/

theorem lineReset_eq (n : Nat) (s : State) :
    lineReset n s =
      { s with
        dir := .output
        swclk := true
        dout := false
        trace := s.trace ++ lineResetTrace n
        reply := .success
        result := { s.result with data := none } } := by
  have passes (t : State) : lineResetPasses Config.lineResetPasses n t = lineResetPass n (lineResetPass n t) := rfl
  rw [lineReset, passes, lineResetPass_eq, lineResetPass_eq]
  simp [lineResetTrace, Config.lineResetPasses, List.replicate, setDir, State.respond]

theorem cycleCounts_lineResetTrace (n : Nat) : cycleCounts (lineResetTrace n) = (2 * (n + 8), 2 * (n + 8), 0) := by
  simp [lineResetTrace, lineResetPassTrace, Config.lineResetPasses, Config.lineResetZeroBits, List.replicate, two_mul,
    Nat.add_assoc]

/-! ### The line at the end of a transaction -/

/-- The line is as R94 leaves it once the transfer is at its end; before, a transfer that comes to its idle bit with its
data driven is driving still. -/
def DrivesToTheEnd (s : State) : Prop :=
  match s.phase with
  | .parWr => s.dir = .output
  | .idleBit => dataPhaseDrove s = true → s.dir = .output
  | .idle => s.dir = .output ∧ s.swclk = true ∧ s.dout = false ∧ s.reply = .transferResult
  | .request | .trn1 | .ack | .dataRd | .parRd | .trn2 | .dataWr => True

theorem drivesToTheEnd_idleBitPhase {s : State} (h : dataPhaseDrove s = true → s.dir = .output) :
    DrivesToTheEnd (idleBitPhase s) := by
  rw [idleBitPhase_eq]
  refine ⟨?_, rfl, rfl, rfl⟩
  cases hd : dataPhaseDrove s
  · rfl
  · exact h hd

/-- The acknowledge bits lead to the idle bit only when they are not OK, and then no data phase has driven (R92). -/
theorem drivesToTheEnd_ackPhase (s : State) : DrivesToTheEnd (ackPhase s) := by
  have hphase : (ackPhase s).phase = phaseArrows .ack (ackClass (ackPhase s).ackraw) (requestReads s.req) :=
    phaseAfterAck_eq _ _
  rw [DrivesToTheEnd, hphase]
  by_cases hok : ackClass (ackPhase s).ackraw = .ok
  · cases hr : requestReads s.req <;> simp [phaseArrows, hok]
  · simp [phaseArrows, dataPhaseDrove, hok]

/-- The second turnaround leads to the idle bit only in a read, which does not drive its data (R92). -/
theorem drivesToTheEnd_secondTurnPhase (s : State) : DrivesToTheEnd (secondTurnPhase s) := by
  rw [secondTurnPhase_eq]
  cases hr : requestReads s.req <;> simp [DrivesToTheEnd, dataPhaseDrove, hr]

theorem drivesToTheEnd_phaseStep {s : State} (h : DrivesToTheEnd s) : DrivesToTheEnd (phaseStep s) := by
  unfold phaseStep
  cases hp : s.phase with
  | idle => exact h
  | request | trn1 | dataRd | parRd => trivial
  | ack => exact drivesToTheEnd_ackPhase s
  | trn2 => exact drivesToTheEnd_secondTurnPhase s
  | dataWr =>
    simp only [dataWritePhase_eq]
    rfl
  | parWr =>
    rw [DrivesToTheEnd, hp] at h
    simp only [parityWritePhase_eq]
    exact fun _ => h
  | idleBit =>
    rw [DrivesToTheEnd, hp] at h
    exact drivesToTheEnd_idleBitPhase h

theorem drivesToTheEnd_runPhases (n : Nat) {s : State} (h : DrivesToTheEnd s) : DrivesToTheEnd (runPhases n s) := by
  induction n generalizing s with
  | zero => exact h
  | succ n ih => exact ih (drivesToTheEnd_phaseStep h)

/-- What every transaction leaves (R94): the line driven low, the clock at 1, no transfer under way, its result as the
response. -/
def EndsDrivingLow (t : State) : Prop :=
  t.dir = .output ∧ t.swclk = true ∧ t.dout = false ∧ t.phase = .idle ∧ t.reply = .transferResult

theorem resume_endsDrivingLow {s : State} (hi : s.phase ≠ .idle) (h : DrivesToTheEnd s) :
    EndsDrivingLow (resume s) := by
  have hidle : (resume s).phase = .idle := by
    obtain ⟨u, hu⟩ := resume_ends hi
    rw [hu]
    rfl
  have hend : DrivesToTheEnd (resume s) := drivesToTheEnd_runPhases maxPhases h
  rw [DrivesToTheEnd, hidle] at hend
  obtain ⟨hdir, hclock, hdout, hreply⟩ := hend
  exact ⟨hdir, hclock, hdout, hidle, hreply⟩

theorem transfer_endsDrivingLow (req : RequestByte) (w : Word) (s : State) : EndsDrivingLow (transfer req w s) :=
  resume_endsDrivingLow (s := startTransfer req w s) (by simp) trivial

theorem receiveAck_endsDrivingLow (p : AckPattern) {s : State} (h : s.phase = .ack) :
    EndsDrivingLow (receiveAck p s) := by
  rw [receiveAck, if_pos h]
  refine resume_endsDrivingLow (by simp [h]) ?_
  simp only [DrivesToTheEnd, h]

/-! ### Cycles -/

/-- From `s` to `t` the block added events with no more than `n` cycles to its trace. -/
def AddsCycles (n : Nat) (s t : State) : Prop := ∃ ev, t.trace = s.trace ++ ev ∧ cycleCount ev ≤ n

theorem AddsCycles.refl (s : State) : AddsCycles 0 s s := ⟨[], by simp, le_rfl⟩

theorem AddsCycles.trans {m n : Nat} {s t u : State} (hst : AddsCycles m s t) (htu : AddsCycles n t u) :
    AddsCycles (m + n) s u := by
  obtain ⟨a, ha, hm⟩ := hst
  obtain ⟨b, hb, hn⟩ := htu
  refine ⟨a ++ b, by rw [hb, ha, List.append_assoc], ?_⟩
  rw [cycleCount, List.countP_append]
  exact Nat.add_le_add hm hn

theorem AddsCycles.mono {m n : Nat} {s t : State} (h : AddsCycles m s t) (hmn : m ≤ n) : AddsCycles n s t := by
  obtain ⟨ev, htrace, hm⟩ := h
  exact ⟨ev, htrace, hm.trans hmn⟩

theorem AddsCycles.cycleCount_le {n : Nat} {s t : State} (h : AddsCycles n s t) :
    cycleCount t.trace ≤ cycleCount s.trace + n := by
  obtain ⟨ev, htrace, hn⟩ := h
  rw [htrace, cycleCount, List.countP_append]
  exact Nat.add_le_add_left hn _

theorem addsCycles_writeBits (bits : List Bit) (s : State) : AddsCycles bits.length s (writeBits bits s) :=
  ⟨writeCycles bits, by rw [writeBits_eq],
    (cycleCount_of_cycleCounts (w := bits.length) (r := 0) (by simp)).le⟩

theorem addsCycles_readBits (n : Nat) (s : State) : AddsCycles n s (readBits n s).2 := by
  obtain ⟨bits, env, draws, hlen, hread⟩ := readBits_shape n s
  exact ⟨readCycles bits, by rw [hread], (cycleCount_of_cycleCounts (w := 0) (r := n) (by simp [hlen])).le⟩

theorem addsCycles_transfer (req : RequestByte) (w : Word) (s : State) : AddsCycles 47 s (transfer req w s) :=
  ⟨_, transfer_trace req w s, cycleCount_transferTrace_le req w s⟩

theorem addsCycles_lineReset (n : Nat) (s : State) : AddsCycles (2 * (n + 8)) s (lineReset n s) :=
  ⟨lineResetTrace n, by rw [lineReset_eq], (cycleCount_of_cycleCounts (cycleCounts_lineResetTrace n)).le⟩

/-- A transaction that the block opens is one transfer or, for `AP_READ`, two (R114). -/
theorem transaction_eq_transfers {i : Instr} {s t : State} (hi : isTransaction i = true) (hrow : ¬ isAckRow i)
    (h : exec i s = .next t) :
    ∃ req w, t = transfer req w s ∨ ∃ req' w', t = transfer req' w' (transfer req w s) := by
  cases i with
  | transfer req w => exact ⟨req, w, .inl (requireRequest_eq_next h).1⟩
  | apRead a =>
    have hread : t = apRead a s := (Host.Outcome.next.inj h).symm
    refine ⟨formatRequest .ap .read a, 0, ?_⟩
    rw [hread]
    unfold apRead
    simp only
    split
    · exact .inr ⟨_, _, rfl⟩
    all_goals exact .inl rfl
  | ackOk | ackWait | ackFault | ackInvalid0 | ackInvalid3 | ackInvalid5 | ackInvalid6 | ackInvalid7 =>
    exact absurd (by decide) hrow
  | setDir | writeBit | readBit | writeByte | readByte | lineReset | formatRequest => cases hi
  | reservedC | reservedD | reservedE | reservedF => cases hi
  | _ => exact ⟨_, _, .inl (Host.Outcome.next.inj h).symm⟩

/-- An operation of the Bit-Link or the formatter takes at most the eight cycles of a byte (R85, R110). -/
theorem addsCycles_of_noTransaction {i : Instr} {s t : State} (hi : isTransaction i = false) (hline : i ≠ .lineReset)
    (h : exec i s = .next t) : AddsCycles 8 s t := by
  cases i with
  | setDir d =>
    cases h
    exact ⟨[.dir d], rfl, Nat.zero_le 8⟩
  | writeBit b =>
    rw [(requireDir_eq_next h).1]
    exact (addsCycles_writeBits [b] s).mono (by simp)
  | readBit =>
    rw [(requireDir_eq_next h).1]
    exact (addsCycles_readBits 1 s).mono (by decide)
  | writeByte v =>
    rw [(requireDir_eq_next h).1]
    exact (addsCycles_writeBits (lsbBits v) s).mono (by simp)
  | readByte =>
    rw [(requireDir_eq_next h).1]
    exact addsCycles_readBits 8 s
  | formatRequest p r a =>
    cases h
    exact (AddsCycles.refl s).mono (by decide)
  | lineReset => contradiction
  | reservedC | reservedD | reservedE | reservedF => cases h
  | _ => cases hi

end Sys2Proof.Proofs
end

section
/-! SUPPORT. The statements about the Packet Transport (41_transport.md), settled. -/

namespace Sys2Proof.Proofs

open Sys2Proof Sys2Proof.Machine Sys2Proof.Safety Sys2Proof.Claims

/-- Settles O20: the two passes from the state that is switched to `Output`, and the counts of their cycles. -/
theorem lineResetSequence : Obligations.LineResetSequence := by
  refine ⟨Nat.le_add_right _ _, fun s => congrArg Host.Outcome.next (lineReset_eq _ s), fun n => ?_⟩
  have counts := cycleCounts_lineResetTrace n
  exact ⟨cycleCount_of_cycleCounts counts, readCount_of_cycleCounts counts⟩

/-- Settles O21: an accepted request is sent, and its transfer goes from the acknowledge bits to the idle bit. -/
theorem transferNonOkResult : Obligations.TransferNonOkResult := by
  intro req w s haccepted hack
  rw [exec_transfer w haccepted, transfer_of_nonOk req w hack]

/-- Settles O22: an accepted request is sent, and its transfer goes through the data phase of a read. -/
theorem transferReadResult : Obligations.TransferReadResult := by
  intro req w s haccepted hack hreads
  rw [exec_transfer w haccepted, transfer_of_read w hack ((requestReads_eq req).trans hreads)]

/-- Settles O23: an accepted request is sent, and its transfer goes through the data phase of a write. -/
theorem transferWriteResult : Obligations.TransferWriteResult := by
  intro req w s haccepted hack hwrites
  rw [exec_transfer w haccepted, transfer_of_write w hack ((requestReads_eq req).trans hwrites)]

/-- Settles O24: after the common start each of the three ends of R91 is the phases that the sequencer runs for it. -/
theorem sequencerRunsTheWrittenTransfer : Obligations.SequencerRunsTheWrittenTransfer := by
  intro req w s
  rw [transfer_eq_runPhases]
  by_cases hok : ackClass s.nextAck = .ok
  · cases hr : requestReads req
    · exact (writtenTransfer_of_write w hok hr).symm
    · exact (writtenTransfer_of_read w hok hr).symm
  · exact (writtenTransfer_of_nonOk req w hok).symm

/-- Settles O28: the final state of a read whose parity does not match. -/
theorem readParityMismatch : Obligations.ReadParityMismatch := by
  intro req w s haccepted hack hreads hparity
  refine ⟨_, transferReadResult req w s haccepted hack hreads, rfl,
    cycleCount_of_cycleCounts (cycleCounts_readTrace ..), ?_⟩
  simp [State.response, afterRead, hparity]

/-- Settles O29: the final state of a write, whose data phase has 34 write cycles and no read cycle. -/
theorem writeDrivesWordParityIdle : Obligations.WriteDrivesWordParityIdle := by
  intro req w s haccepted hack hwrites
  refine ⟨_, _, transferWriteResult req w s haccepted hack hwrites, ?_, rfl, ?_, rfl⟩
  · simp [afterWrite, writeTrace]
  · exact readCount_of_cycleCounts (c := 34) (w := 34) (by simp)

/-- Settles O30: the final state of a read does not mention the operand, and that of a write has no data, whichever the
acknowledge is. -/
theorem wdataIgnoredOnReadsNoDataOnWrites : Obligations.WdataIgnoredOnReadsNoDataOnWrites := by
  refine ⟨fun req w w' s hreads => ?_, fun req w s haccepted hwrites => ?_⟩
  · have same : transfer req w s = transfer req w' s := by
      simp only [transfer_eq_afterTransfer, afterTransfer, hreads, if_true]
    exact congrArg (requireRequest req s) same
  · by_cases hack : ackClass s.nextAck = .ok
    · exact ⟨_, _, transferWriteResult req w s haccepted hack hwrites, rfl, rfl⟩
    · exact ⟨_, _, transferNonOkResult req w s haccepted hack, rfl, rfl⟩

/-- Settles O31: the header that every transaction begins with, and the eight bits of the request in it. -/
theorem requestGoesOutAsGiven : Obligations.RequestGoesOutAsGiven := by
  intro req w s haccepted
  obtain ⟨rest, hheader⟩ := transferTrace_header req w s
  refine ⟨_, turnCycle ++ readCycles (lsbBits s.nextAck) ++ rest, exec_transfer w haccepted, rfl, ?_, ?_⟩
  · rw [requestPhase_eq]
    rfl
  · rw [← append_flatMap_lsbBits, transfer_trace, hheader]
    simp only [headerTrace, List.append_assoc]
    rfl

/-- Settles O33: a transaction ends with a transfer or with the rest of one, and each phase of it keeps
`DrivesToTheEnd`. -/
theorem transactionsEndDrivingLow : Obligations.TransactionsEndDrivingLow := by
  intro i s t hi hack h
  rcases exec_eq_next h with ⟨hno, -⟩ | ⟨-, req, w, u, rfl, -⟩ | ⟨-, hrow, p, rfl⟩
  · simp [hi] at hno
  · exact transfer_endsDrivingLow req w u
  · exact receiveAck_endsDrivingLow p (hack hrow)

/-- Settles O43: an acknowledge row hands its pattern to the transfer under way, which the header has left. -/
theorem transferIsHeaderThenAckRow : Obligations.TransferIsHeaderThenAckRow := by
  intro req w i p s hrow haccepted
  rw [exec_ackRow _ hrow, ← transfer_withPattern]
  exact exec_transfer w haccepted

/-- Settles O50: a line reset, one transfer or two, an operation of at most eight cycles, or an acknowledge row that an
idle block does not look at. -/
theorem cyclesAreBounded : Obligations.CyclesAreBounded := by
  intro i s t hidle h
  apply AddsCycles.cycleCount_le
  cases hi : isTransaction i with
  | false =>
    by_cases hline : i = .lineReset
    · subst hline
      cases h
      exact (addsCycles_lineReset _ s).mono (le_max_left _ _)
    · exact (addsCycles_of_noTransaction hi hline h).mono (by omega)
  | true =>
    by_cases hrow : isAckRow i
    · obtain ⟨⟨_, p⟩, hmem, rfl⟩ := List.mem_map.1 hrow
      rw [exec_ackRow s hmem, receiveAck_outside p (by simp [hidle])] at h
      cases h
      exact (AddsCycles.refl s).mono (Nat.zero_le _)
    · obtain ⟨req, w, ht | ⟨req', w', ht⟩⟩ := transaction_eq_transfers hi hrow h <;> rw [ht]
      · exact (addsCycles_transfer req w s).mono (by omega)
      · exact ((addsCycles_transfer req w s).trans (addsCycles_transfer req' w' _)).mono (le_max_right _ _)

/-- Settles O52: a transaction adds the events of one transfer or of two, each of which switches before it drives or
samples, and so does a line reset. -/
theorem packetOperationsAreWellDriven : Obligations.PacketOperationsAreWellDriven := by
  intro i s t d hi h
  rcases hi with ⟨htransaction, hrow⟩ | rfl
  · obtain ⟨req, w, ht | ⟨req', w', ht⟩⟩ := transaction_eq_transfers htransaction hrow h <;> rw [ht]
    · exact ⟨_, transfer_trace req w s, wellDriven_transferTrace d req w s⟩
    · refine ⟨_, ?_, wellDriven_append (wellDriven_transferTrace d req w s) fun d' =>
        wellDriven_transferTrace d' req' w' (transfer req w s)⟩
      rw [transfer_trace, transfer_trace, List.append_assoc]
  · cases h
    exact ⟨_, by rw [lineReset_eq], wellDriven_lineResetTrace d _⟩

end Sys2Proof.Proofs
end

section
/-! SUPPORT. The formatter's byte, bit by bit and as the lists of request bytes have it (R51, R57, R110). -/

namespace Sys2Proof.Proofs

open Sys2Proof Sys2Proof.Machine Sys2Proof.Safety Sys2Proof.Claims

/-! ### The bits of the byte -/

theorem bitOfPort_eq (p : Port) : bitOfPort p = decide (p = .ap) := by cases p <;> rfl

theorem bitOfAccess_eq (r : Access) : bitOfAccess r = decide (r = .read) := by cases r <;> rfl

theorem portOfBit_eq (b : Bit) : portOfBit b = if b then .ap else .dp := by cases b <;> rfl

theorem accessOfBit_eq (b : Bit) : accessOfBit b = if b then .read else .write := by cases b <;> rfl

/-- The address field is bits 2 and 3 of the address, bit 2 first (R54). -/
theorem lsbBits_addressField (a : Byte) : lsbBits (addressField a) = [a.getLsbD 2, a.getLsbD 3] := by
  have range : List.range Config.addrFieldBits = [0, 1] := rfl
  simp [lsbBits, range, addressField, BitVec.getLsbD_extractLsb']

/-- `start`, `port`, `rnw`, `a2`, `a3`, `parity`, `stop`, `park` in the order they go on the wire (R51). -/
def requestBits (port rnw a2 a3 : Bit) : List Bit := [true, port, rnw, a2, a3, port ^^ rnw ^^ a2 ^^ a3, false, true]

theorem formatRequest_eq (p : Port) (r : Access) (a : Byte) :
    formatRequest p r a =
      packLsb 8 (requestBits (bitOfPort p) (bitOfAccess r) (a.getLsbD 2) (a.getLsbD 3)) := by
  simp only [formatRequest, par4, lsbBits_addressField, requestBits]
  simp [evenParity]

theorem formatRequest_getLsbD (p : Port) (r : Access) (a : Byte) (k : Nat) :
    (formatRequest p r a).getLsbD k =
      (decide (k < 8) &&
        (requestBits (bitOfPort p) (bitOfAccess r) (a.getLsbD 2) (a.getLsbD 3))[k]?.getD false) := by
  rw [formatRequest_eq, packLsb_getLsbD]

/-- `start`, `stop` and `park` are fixed (R110). -/
theorem formatRequest_and_fixedBits (p : Port) (r : Access) (a : Byte) : formatRequest p r a &&& 0xC1#8 = 0x81#8 := by
  have fixed : ∀ port rnw a2 a3 : Bit, packLsb 8 (requestBits port rnw a2 a3) &&& 0xC1#8 = 0x81#8 := by decide
  rw [formatRequest_eq, fixed]

/-- The address bits other than 3 and 2 do not reach the byte (R34, R110). -/
theorem formatRequest_and_addressMask (p : Port) (r : Access) (a : Byte) :
    formatRequest p r (a &&& addressMask) = formatRequest p r a := by
  rw [formatRequest_eq, formatRequest_eq, getLsbD_and_addressMask, getLsbD_and_addressMask]
  simp

/-! ### The listed request bytes -/

/-- Four bytes, one for each value of the address field, are all that a port and a direction need. -/
theorem formatRequest_eq_requestFor (p : Port) (r : Access) (a : Byte) :
    formatRequest p r a =
      requestFor (formatRequest p r 0x0#8) (formatRequest p r 0x4#8) (formatRequest p r 0x8#8) (formatRequest p r 0xC#8)
        a := by
  unfold requestFor
  simp only [formatRequest_eq]
  cases a.getLsbD 3 <;> cases a.getLsbD 2 <;> rfl

theorem formatRequest_dp_read (a : Byte) : formatRequest .dp .read a = dpReadRequest a :=
  formatRequest_eq_requestFor .dp .read a

theorem formatRequest_dp_write (a : Byte) : formatRequest .dp .write a = dpWriteRequest a :=
  formatRequest_eq_requestFor .dp .write a

theorem formatRequest_ap_read (a : Byte) : formatRequest .ap .read a = apReadRequest a :=
  formatRequest_eq_requestFor .ap .read a

theorem formatRequest_ap_write (a : Byte) : formatRequest .ap .write a = apWriteRequest a :=
  formatRequest_eq_requestFor .ap .write a

theorem formatRequest_rdbuff : formatRequest .dp .read Config.dpRdbuff = 0xBD#8 := rfl

/-- A request for a read announces a read (R53). -/
theorem formatRequest_read_getLsbD_two (p : Port) (a : Byte) : (formatRequest p .read a).getLsbD 2 = true := by
  rw [formatRequest_getLsbD]
  rfl

end Sys2Proof.Proofs
end

section
/-! SUPPORT. A register operation as the transactions it makes, and the scripts of the environment that answer a read
(R58, R60, R61, R111 to R114). -/

namespace Sys2Proof.Proofs

open Sys2Proof Sys2Proof.Machine Sys2Proof.Safety Sys2Proof.Claims

/-! ### Operations as transactions -/

theorem exec_dpRead (a : Byte) (s : State) : exec (.dpRead a) s = .next (transfer (dpReadRequest a) 0 s) := by
  rw [← formatRequest_dp_read]
  rfl

theorem exec_dpWrite (a : Byte) (w : Word) (s : State) :
    exec (.dpWrite a w) s = .next (transfer (dpWriteRequest a) w s) := by
  rw [← formatRequest_dp_write]
  rfl

theorem exec_apWrite (a : Byte) (w : Word) (s : State) :
    exec (.apWrite a w) s = .next (transfer (apWriteRequest a) w s) := by
  rw [← formatRequest_ap_write]
  rfl

theorem exec_apRead (a : Byte) (s : State) : exec (.apRead a) s = .next (apRead a s) := rfl

/-- `TRANSFER` never refuses a byte that the formatter made, checked or not (R57, R69). -/
theorem requestAccepted_formatRequest (p : Port) (r : Access) (a : Byte) (s : State) :
    RequestAccepted (formatRequest p r a) s :=
  .inr (isRequest_formatRequest p r a)

/-- The second step of `AP_READ` reads `RDBUFF` (R114). -/
theorem apRead_of_ok {a : Byte} {s t : State} (ht : transfer (apReadRequest a) 0 s = t) (h : t.result.ack = .ok) :
    apRead a s = transfer 0xBD#8 0 t := by
  unfold apRead
  rw [formatRequest_ap_read, formatRequest_rdbuff, ht]
  simp only [h]

/-- After a failure the second step is not made (R114, D18). -/
theorem apRead_of_failure {a : Byte} {s t : State} (ht : transfer (apReadRequest a) 0 s = t)
    (h : t.result.ack ≠ .ok) : apRead a s = t := by
  unfold apRead
  rw [formatRequest_ap_read, ht]
  cases hack : t.result.ack with
  | ok => exact absurd hack h
  | wait | fault | protocolError => simp only [hack]

theorem requestReads_dpReadRequest (a : Byte) : requestReads (dpReadRequest a) = true := by
  rw [requestReads_eq, ← formatRequest_dp_read, formatRequest_read_getLsbD_two]

theorem requestReads_apReadRequest (a : Byte) : requestReads (apReadRequest a) = true := by
  rw [requestReads_eq, ← formatRequest_ap_read, formatRequest_read_getLsbD_two]

/-! ### The outcome of a read -/

/-- A read succeeds when it is acknowledged OK and its parity is right (R95). -/
theorem transfer_read_ack_eq_ok_iff {req : RequestByte} (w : Word) (s : State) (hr : requestReads req = true) :
    (transfer req w s).result.ack = .ok ↔ ackClass s.nextAck = .ok ∧ s.nextParity = par32 s.nextWord := by
  by_cases hack : ackClass s.nextAck = .ok
  · rw [transfer_of_read w hack hr, afterRead]
    by_cases hparity : s.nextParity = par32 s.nextWord <;> simp [hack, hparity]
  · simp [transfer_of_nonOk req w hack, afterNonOk, hack]

theorem cycleCount_append (a b : List Event) : cycleCount (a ++ b) = cycleCount a + cycleCount b := List.countP_append

/-- A transaction takes 47 cycles with a data phase and 13 without (R65). -/
theorem cycleCount_transferTrace (req : RequestByte) (w : Word) (s : State) :
    cycleCount (transferTrace req w s) = if ackClass s.nextAck = .ok then 47 else 13 := by
  unfold transferTrace
  split
  · split
    · exact cycleCount_of_cycleCounts (cycleCounts_readTrace ..)
    · exact cycleCount_of_cycleCounts (cycleCounts_writeTrace ..)
  · exact cycleCount_of_cycleCounts (cycleCounts_nonOkTrace ..)

/-- The response to a transfer is determined by what the environment will answer (R20). -/
theorem transfer_response_congr (req : RequestByte) (w : Word) {s t : State} (henv : s.env = t.env)
    (hdraws : s.draws = t.draws) : (transfer req w s).response = (transfer req w t).response := by
  have hack : s.nextAck = t.nextAck := congrArg (packLsb 3) (answers_congr henv hdraws 0 3)
  have hword : s.nextWord = t.nextWord := congrArg (packLsb 32) (answers_congr henv hdraws 3 32)
  have hparity : s.nextParity = t.nextParity := answer_congr henv hdraws 35
  rw [transfer_eq_afterTransfer, transfer_eq_afterTransfer, afterTransfer, afterTransfer, hack]
  split
  · split
    · simp only [State.response, afterRead, hword, hparity]
    · rfl
  · simp only [State.response, afterNonOk, hack]

/-! ### Scripts that answer a transaction -/

/-- The answers of a script behind the bits that are taken before them. -/
theorem answers_of_script_after (before bits rest : List Bit) (s : State) (h : s.env = before ++ (bits ++ rest)) :
    s.answers before.length bits.length = bits := by
  have later := answers_of_script bits rest (s.afterSamples before.length) (by simp [State.afterSamples, h])
  rwa [answers_afterSamples] at later

theorem nextAck_of_script {p : AckPattern} {rest : List Bit} {s : State} (h : s.env = lsbBits p ++ rest) :
    s.nextAck = p := by
  have bits : s.answers 0 3 = lsbBits p := by simpa using answers_of_script (lsbBits p) rest s h
  rw [State.nextAck, bits, packLsb_lsbBits]

/-- The answers to a read: the acknowledge OK, the word and its parity, then `rest` (R58, R60, R61). -/
def okReadScript (v : Word) (rest : List Bit) : List Bit := lsbBits 0b001#3 ++ lsbBits v ++ [par32 v] ++ rest

theorem okReadScript_length (v : Word) (rest : List Bit) : (okReadScript v rest).length = 36 + rest.length := by
  simp [okReadScript]
  omega

theorem drop_okReadScript (v : Word) (rest : List Bit) : (okReadScript v rest).drop 36 = rest :=
  List.drop_left' (by simp)

theorem nextAck_of_okReadScript {v : Word} {rest : List Bit} {s : State} (h : s.env = okReadScript v rest) :
    s.nextAck = 0b001#3 :=
  nextAck_of_script (rest := lsbBits v ++ [par32 v] ++ rest) (by simp [h, okReadScript])

theorem nextWord_of_okReadScript {v : Word} {rest : List Bit} {s : State} (h : s.env = okReadScript v rest) :
    s.nextWord = v := by
  have bits : s.answers 3 32 = lsbBits v := by
    simpa using answers_of_script_after (lsbBits 0b001#3) (lsbBits v) ([par32 v] ++ rest) s (by simp [h, okReadScript])
  rw [State.nextWord, bits, packLsb_lsbBits]

theorem nextParity_of_okReadScript {v : Word} {rest : List Bit} {s : State} (h : s.env = okReadScript v rest) :
    s.nextParity = par32 v := by
  have bits : s.answers 35 1 = [par32 v] := by
    simpa using
      answers_of_script_after (lsbBits 0b001#3 ++ lsbBits v) [par32 v] rest s (by simp [h, okReadScript])
  exact (List.cons.inj bits).1

/-- A read that is answered so succeeds, has taken its 36 answers and has drawn no free bit (R65, R95). -/
theorem transfer_of_okReadScript {req : RequestByte} (w : Word) {v : Word} {rest : List Bit} {s : State}
    (hr : requestReads req = true) (h : s.env = okReadScript v rest) :
    (transfer req w s).response = some (.result { ack := .ok, data := some v, parityOk := true }) ∧
      (transfer req w s).env = rest ∧ (transfer req w s).draws = s.draws := by
  have hack : ackClass s.nextAck = .ok := by rw [nextAck_of_okReadScript h]; rfl
  rw [transfer_of_read w hack hr]
  refine ⟨?_, ?_, ?_⟩
  · simp [State.response, afterRead, nextWord_of_okReadScript h, nextParity_of_okReadScript h]
  · simp [afterRead, State.afterSamples, h, drop_okReadScript]
  · simp [afterRead, State.afterSamples, h, okReadScript_length]

/-- After a first read that is answered so, `AP_READ` responds as the read of `RDBUFF` alone does to the answers behind
(R114, U10). -/
theorem apRead_response_of_okReadScript (a : Byte) (v : Word) (rest : List Bit) (s : State) :
    (apRead a { s with env := okReadScript v rest }).response =
      (transfer 0xBD#8 0 { s with env := rest }).response := by
  obtain ⟨hresponse, henv, hdraws⟩ := transfer_of_okReadScript (s := { s with env := okReadScript v rest }) 0
    (requestReads_apReadRequest a) rfl
  rw [apRead_of_ok rfl (congrArg TransferResult.ack (response_eq_result hresponse))]
  exact transfer_response_congr _ _ henv hdraws

/-- A transaction that is answered with another pattern fails and has taken the three bits (R65, R93). -/
theorem transfer_of_nonOkScript (req : RequestByte) (w : Word) {p : AckPattern} {rest : List Bit} {s : State}
    (hp : ackClass p ≠ .ok) (h : s.env = lsbBits p ++ rest) :
    (transfer req w s).response = some (.result { ack := ackClass p, data := none, parityOk := true }) ∧
      (transfer req w s).env = rest := by
  have hack : s.nextAck = p := nextAck_of_script h
  rw [transfer_of_nonOk req w (hack ▸ hp)]
  refine ⟨?_, ?_⟩
  · simp [State.response, afterNonOk, hack]
  · simp [afterNonOk, State.afterSamples, h]

end Sys2Proof.Proofs
end

section
/-! SUPPORT. The statements about the register operations (42_register_access.md), settled. -/

namespace Sys2Proof.Proofs

open Sys2Proof Sys2Proof.Machine Sys2Proof.Safety Sys2Proof.Claims

/-- Settles O6: the bits of the formatter's byte, in which the masked address has the same two bits. -/
theorem formatRequestBuildsTheByte : Obligations.FormatRequestBuildsTheByte := by
  refine ⟨fun p r a s => ⟨formatRequest p r a, rfl, ?_⟩, fun a w => ?_⟩
  · have masked : formatRequest p r (a &&& 0x0C#8) = formatRequest p r a := formatRequest_and_addressMask p r a
    refine ⟨?_, ?_, ?_, ?_, ?_, ?_, ?_, ?_, formatRequest_and_fixedBits p r a, masked ▸ rfl⟩
    all_goals
      rw [formatRequest_getLsbD, bitOfPort_eq, bitOfAccess_eq]
      rfl
  · rw [decode_formatRequestWord, portOfBit_eq, accessOfBit_eq, addressMask_eq]

/-- Settles O32: `DP_READ` is a read, and the script of either kind says what it receives. -/
theorem readReturnsWhatTheLineCarries : Obligations.ReadReturnsWhatTheLineCarries := by
  refine fun a s rest => ⟨fun v => ?_, fun p hp => ?_⟩
  · obtain ⟨hresponse, henv, -⟩ := transfer_of_okReadScript (s := { s with env := okReadScript v rest }) 0
      (requestReads_dpReadRequest a) rfl
    exact ⟨_, exec_dpRead a _, hresponse, henv⟩
  · exact ⟨_, exec_dpRead a _, transfer_of_nonOkScript _ 0 hp rfl⟩

/-- Settles O34: the transfer of the listed byte, a read, whose operand plays no part. -/
theorem dpReadResult : Obligations.DpReadResult := by
  refine fun a s => ⟨?_, fun w => ?_, decode_dpReadWord a⟩
  · rw [exec_dpRead, transfer_eq_afterTransfer]
  · have sent : exec (.transfer (dpReadRequest a) 0) s = .next (transfer (dpReadRequest a) 0 s) :=
      exec_transfer 0 (formatRequest_dp_read a ▸ requestAccepted_formatRequest .dp .read a s)
    rw [exec_dpRead, ← sent]
    exact wdataIgnoredOnReadsNoDataOnWrites.1 _ 0 w s
      (requestReads_eq (dpReadRequest a) ▸ requestReads_dpReadRequest a)

/-- Settles O35: the transfer of the listed byte. -/
theorem dpWriteResult : Obligations.DpWriteResult := by
  refine fun a w s => ⟨?_, ?_, decode_dpWriteWord a w⟩
  · rw [exec_dpWrite, transfer_eq_afterTransfer]
  · rw [exec_dpWrite, exec_transfer w (formatRequest_dp_write a ▸ requestAccepted_formatRequest .dp .write a s)]

/-- Settles O36: the transfer of the listed byte. -/
theorem apWriteResult : Obligations.ApWriteResult := by
  refine fun a w s => ⟨?_, ?_, decode_apWriteWord a w⟩
  · rw [exec_apWrite, transfer_eq_afterTransfer]
  · rw [exec_apWrite, exec_transfer w (formatRequest_ap_write a ▸ requestAccepted_formatRequest .ap .write a s)]

/-- Settles O37: the second transfer is made when the first has succeeded. -/
theorem apReadResult : Obligations.ApReadResult := by
  intro a s
  simp only [← transfer_eq_afterTransfer]
  rw [exec_apRead]
  split
  · next h => rw [apRead_of_ok rfl h]
  · next h => rw [apRead_of_failure rfl h]

/-- Settles O38: the cycles of the first transfer and, when it has succeeded, those of the second. -/
theorem apReadCycleCounts : Obligations.ApReadCycleCounts := by
  intro a s
  have ok_iff := transfer_read_ack_eq_ok_iff 0 s (requestReads_apReadRequest a)
  have first := transfer_trace (apReadRequest a) 0 s
  simp only [← transfer_eq_afterTransfer]
  generalize ht : transfer (apReadRequest a) 0 s = t at ok_iff first
  by_cases h : t.result.ack = .ok
  · obtain ⟨hack, hparity⟩ := ok_iff.1 h
    refine ⟨_, transferTrace (apReadRequest a) 0 s ++ transferTrace 0xBD#8 0 t, exec_apRead a s, ?_, ?_⟩
    · rw [apRead_of_ok ht h, transfer_trace, first, List.append_assoc]
    · rw [cycleCount_append, cycleCount_transferTrace, cycleCount_transferTrace]
      by_cases hack2 : ackClass t.nextAck = .ok <;> simp [hack, hparity, hack2]
  · refine ⟨_, transferTrace (apReadRequest a) 0 s, exec_apRead a s, ?_, ?_⟩
    · rw [apRead_of_failure ht h, first]
    · rw [cycleCount_transferTrace]
      by_cases hack : ackClass s.nextAck = .ok
      · have mismatch : s.nextParity ≠ par32 s.nextWord := fun hparity => h (ok_iff.2 ⟨hack, hparity⟩)
        simp [hack, mismatch]
      · simp [hack]

/-- Settles O39: both first reads succeed and leave the same answers for the second. -/
theorem apReadDropsTheFirstWord : Obligations.ApReadDropsTheFirstWord := by
  intro a s v v' rest
  refine ⟨_, _, exec_apRead a _, exec_apRead a _, ?_⟩
  have response (x : Word) := apRead_response_of_okReadScript a x rest s
  exact (response v).trans (response v').symm

end Sys2Proof.Proofs
end

section
/-! SUPPORT. The statements about errors and exceptions (60_exceptions.md), settled. -/

namespace Sys2Proof.Proofs

open Sys2Proof Sys2Proof.Machine Sys2Proof.Safety Sys2Proof.Claims

/-- Settles O27: neither class is OK, so the transfer ends without a data phase, as O21 says. -/
theorem waitAndFaultEndAfterThirteenCycles : Obligations.WaitAndFaultEndAfterThirteenCycles := by
  intro req w s haccepted hclass
  have hack : ackClass s.nextAck ≠ .ok := by rcases hclass with h | h <;> simp [h]
  exact ⟨_, nonOkTrace req s.nextAck, transferNonOkResult req w s haccepted hack, rfl, rfl,
    cycleCount_of_cycleCounts (cycleCounts_nonOkTrace ..), rfl⟩

/-- Settles O18: only the guards of the direction and of the request byte could stop an operation, and they stop none
whose caller is not checked; every other row but the reserved ones answers a next state outright. -/
theorem everyOperationAlwaysRuns : Obligations.EveryOperationAlwaysRuns := by
  intro i s hunchecked hreserved
  cases i with
  | writeBit b => exact ⟨_, exec_writeBit b (.inl hunchecked)⟩
  | readBit => exact ⟨_, exec_readBit (.inl hunchecked)⟩
  | writeByte v => exact ⟨_, exec_writeByte v (.inl hunchecked)⟩
  | readByte => exact ⟨_, exec_readByte (.inl hunchecked)⟩
  | transfer req w => exact ⟨_, exec_transfer w (.inl hunchecked)⟩
  | reservedC | reservedD | reservedE | reservedF => cases hreserved
  | _ => exact ⟨_, rfl⟩

/-- Settles O42: the row hands its pattern to `receiveAck`, which looks at the line in the acknowledge phase only. -/
theorem ackOutsideItsPhaseIsIgnored : Obligations.AckOutsideItsPhaseIsIgnored := by
  intro i s hrow hphase
  obtain ⟨⟨_, p⟩, hmem, rfl⟩ := List.mem_map.1 hrow
  rw [exec_ackRow s hmem, receiveAck_outside p hphase]

end Sys2Proof.Proofs
end

section
/-! SUPPORT. Histories in which the line was driven and sampled as R163 asks, and what a checked operation adds to
one. -/

namespace Sys2Proof.Proofs

open Sys2Proof Sys2Proof.Machine Sys2Proof.Safety Sys2Proof.Claims

/-- A trace is well driven when its first part is and its second part is from the direction the first leaves. -/
theorem wellDriven_append_eq (p : Pins) (a b : List Event) :
    wellDriven p.dir (a ++ b) = (wellDriven p.dir a && wellDriven (replay p a).dir b) := by
  induction a generalizing p with
  | nil => rfl
  | cons e rest ih =>
    have hrest := ih (p.after e)
    cases e with
    | dir d => exact hrest
    | clk l => exact hrest
    | data l => exact (congrArg _ hrest).trans (Bool.and_assoc ..).symm
    | sample l => exact (congrArg _ hrest).trans (Bool.and_assoc ..).symm

/-- From `s` to `t` the block added events to its trace that, from the direction of `s` on, drive data only while
Output and sample only while Input (R11, R163). -/
def AddsWellDriven (s t : State) : Prop := ∃ ev, t.trace = s.trace ++ ev ∧ wellDriven s.dir ev = true

theorem AddsWellDriven.refl (s : State) : AddsWellDriven s s := ⟨[], by simp, rfl⟩

/-- The trace explains the direction in which the added events begin, so they continue a well driven history. -/
theorem AddsWellDriven.keepsWellDrivenHistory {s t : State} (h : AddsWellDriven s t) (hext : Extends s t)
    (hs : WellDrivenHistory s) : WellDrivenHistory t := by
  obtain ⟨ev, htrace, hev⟩ := h
  have hbefore : wellDriven (pinsOf State.reset).dir s.trace = true := hs.driven
  have hafter : wellDriven (replay (pinsOf State.reset) s.trace).dir ev = true := by
    rw [show replay (pinsOf State.reset) s.trace = pinsOf s from hs.explained]
    exact hev
  refine ⟨hext.keepsTraceExplainsPins hs.explained, ?_⟩
  rw [htrace]
  exact (wellDriven_append_eq (pinsOf State.reset) s.trace ev).trans (by rw [hbefore, hafter]; rfl)

/-- The response that ends an operation adds no event. -/
theorem AddsWellDriven.respond {s u : State} (h : AddsWellDriven s u) (r : Reply) : AddsWellDriven s (u.respond r) := h

theorem addsWellDriven_writeBits (bits : List Bit) {s : State} (h : s.dir = .output) :
    AddsWellDriven s (writeBits bits s) :=
  ⟨writeCycles bits, by rw [writeBits_eq], by rw [h, wellDriven_writeCycles]⟩

theorem addsWellDriven_readBits (n : Nat) {s : State} (h : s.dir = .input) : AddsWellDriven s (readBits n s).2 := by
  obtain ⟨bits, env, draws, -, hread⟩ := readBits_shape n s
  refine ⟨readCycles bits, by rw [hread], ?_⟩
  rw [h, ← List.append_nil (readCycles bits), wellDriven_readCycles_append]
  rfl

/-- With the check on, a bit or byte operation that ran had the direction it needs (U1, U2). -/
theorem requireDir_dir_of_checked {need : Dir} {f : Fault} {s t u : State} (hs : s.callerChecks = true)
    (h : requireDir need f s t = .next u) : s.dir = need :=
  (requireDir_eq_next h).2.resolve_left (by simp [hs])

/-- An operation that is no transaction drives only with the direction its check asked for, or after its own switch
(R81, R82, R90). -/
theorem addsWellDriven_of_noTransaction {i : Instr} {s t : State} (hs : s.callerChecks = true)
    (hi : isTransaction i = false) (h : exec i s = .next t) : AddsWellDriven s t := by
  cases i with
  | setDir d =>
    cases h
    exact ⟨[.dir d], rfl, rfl⟩
  | writeBit b =>
    rw [(requireDir_eq_next h).1]
    exact (addsWellDriven_writeBits [b] (requireDir_dir_of_checked hs h)).respond _
  | readBit =>
    rw [(requireDir_eq_next h).1]
    exact (addsWellDriven_readBits 1 (requireDir_dir_of_checked hs h)).respond _
  | writeByte v =>
    rw [(requireDir_eq_next h).1]
    exact (addsWellDriven_writeBits (lsbBits v) (requireDir_dir_of_checked hs h)).respond _
  | readByte =>
    rw [(requireDir_eq_next h).1]
    exact (addsWellDriven_readBits 8 (requireDir_dir_of_checked hs h)).respond _
  | lineReset => exact packetOperationsAreWellDriven _ s t s.dir (.inr rfl) h
  | formatRequest p r a =>
    cases h
    exact .refl s
  | reservedC | reservedD | reservedE | reservedF => cases h
  | _ => cases hi

/-- An idle block does not look at an acknowledge row; every other transaction switches the line itself (R99, R145). -/
theorem addsWellDriven_exec {i : Instr} {s t : State} (hs : s.callerChecks = true) (hidle : s.phase = .idle)
    (h : exec i s = .next t) : AddsWellDriven s t := by
  cases hi : isTransaction i with
  | false => exact addsWellDriven_of_noTransaction hs hi h
  | true =>
    by_cases hrow : isAckRow i
    · rw [ackOutsideItsPhaseIsIgnored i s hrow (by simp [hidle])] at h
      cases h
      exact .refl s
    · exact packetOperationsAreWellDriven i s t s.dir (.inl ⟨hi, hrow⟩) h

end Sys2Proof.Proofs
end

section
/-! SUPPORT. The treatment of the caller's mistakes (log entry 1): when it stops an operation, and that no operation
otherwise depends on it (R163, U1, U2, U3). -/

namespace Sys2Proof.Proofs

open Sys2Proof Sys2Proof.Machine Sys2Proof.Safety Sys2Proof.Claims

/-! ### When a mistake stops the machine -/

theorem requireDir_eq_fault_iff (need : Dir) (f : Fault) (s t : State) :
    requireDir need f s t = .fault f ↔ s.callerChecks = true ∧ s.dir ≠ need := by
  unfold requireDir
  cases s.callerChecks <;> by_cases hdir : s.dir = need <;> simp [hdir]

theorem requireRequest_eq_refused_iff (req : RequestByte) (s t : State) :
    requireRequest req s t = .refused (.malformedRequest req) ↔ s.callerChecks = true ∧ isRequest req = false := by
  unfold requireRequest
  cases s.callerChecks <;> cases isRequest req <;> simp

theorem dir_ne_output_iff (d : Dir) : d ≠ .output ↔ d = .input := by cases d <;> simp

theorem dir_ne_input_iff (d : Dir) : d ≠ .input ↔ d = .output := by cases d <;> simp

/-! ### The other treatment -/

/-- `s` under the treatment `c` of the caller's mistakes. -/
def withChecks (c : Bool) (s : State) : State := { s with callerChecks := c }

theorem writeBits_withChecks (bits : List Bit) (c : Bool) (s : State) :
    writeBits bits (withChecks c s) = withChecks c (writeBits bits s) := by
  rw [writeBits_eq, writeBits_eq]
  rfl

theorem readBit_withChecks (c : Bool) (s : State) :
    readBit (withChecks c s) = ((readBit s).1, withChecks c (readBit s).2) := by
  rcases dir_cases s with h | h
  · rw [readBit_input s h, readBit_input (withChecks c s) h]
    rfl
  · rw [readBit_output s h, readBit_output (withChecks c s) h]
    rfl

theorem readValue_withChecks (n : Nat) (c : Bool) (s : State) :
    readValue n (withChecks c s) = ((readValue n s).1, withChecks c (readValue n s).2) := by
  rcases dir_cases s with h | h
  · rw [readValue, readValue, readBits_input n s h, readBits_input n (withChecks c s) h]
    rfl
  · rw [readValue, readValue, readBits_output n s h, readBits_output n (withChecks c s) h]
    rfl

theorem lineReset_withChecks (n : Nat) (c : Bool) (s : State) :
    lineReset n (withChecks c s) = withChecks c (lineReset n s) := by
  rw [lineReset_eq, lineReset_eq]
  rfl

theorem phaseStep_withChecks (c : Bool) (s : State) : phaseStep (withChecks c s) = withChecks c (phaseStep s) := by
  have samePhase : (withChecks c s).phase = s.phase := rfl
  unfold phaseStep
  rw [samePhase]
  cases s.phase with
  | idle => rfl
  | request => simp only [requestPhase_eq]; rfl
  | trn1 => simp only [firstTurnPhase_eq]; rfl
  | ack => simp only [ackPhase, readValue_withChecks]; rfl
  | dataRd => simp only [dataReadPhase, readValue_withChecks]; rfl
  | parRd => simp only [parityReadPhase, readBit_withChecks]; rfl
  | trn2 => simp only [secondTurnPhase_eq]; rfl
  | dataWr => simp only [dataWritePhase_eq]; rfl
  | parWr => simp only [parityWritePhase_eq]; rfl
  | idleBit => simp only [idleBitPhase_eq]; rfl

theorem runPhases_withChecks (n : Nat) (c : Bool) (s : State) :
    runPhases n (withChecks c s) = withChecks c (runPhases n s) := by
  induction n generalizing s with
  | zero => rfl
  | succ n ih => rw [runPhases, phaseStep_withChecks, ih, runPhases]

theorem transfer_withChecks (req : RequestByte) (w : Word) (c : Bool) (s : State) :
    transfer req w (withChecks c s) = withChecks c (transfer req w s) :=
  runPhases_withChecks maxPhases c (startTransfer req w s)

theorem apRead_withChecks (a : Byte) (c : Bool) (s : State) :
    apRead a (withChecks c s) = withChecks c (apRead a s) := by
  have first := transfer_withChecks (apReadRequest a) 0 c s
  by_cases h : (transfer (apReadRequest a) 0 s).result.ack = .ok
  · rw [apRead_of_ok first h, transfer_withChecks, apRead_of_ok rfl h]
  · rw [apRead_of_failure first h, apRead_of_failure rfl h]

theorem receiveAck_withChecks (p : AckPattern) (c : Bool) (s : State) :
    receiveAck p (withChecks c s) = withChecks c (receiveAck p s) := by
  by_cases h : s.phase = .ack
  · rw [receiveAck, receiveAck, if_pos h, if_pos (show (withChecks c s).phase = .ack from h)]
    exact runPhases_withChecks maxPhases c { s with env := lsbBits p ++ s.env }
  · rw [receiveAck_outside p h, receiveAck_outside p (s := withChecks c s) h]

/-- An instruction that completes for a caller that makes no mistake completes under either treatment, in the same
state. -/
theorem exec_withChecks {i : Instr} {s t : State} (c : Bool) (hgood : callerOk i s = true) (h : exec i s = .next t) :
    exec i (withChecks c s) = .next (withChecks c t) := by
  cases i with
  | writeBit b =>
    have hdir : s.dir = .output := eq_of_beq hgood
    rw [(requireDir_eq_next h).1, exec_writeBit b (s := withChecks c s) (.inr hdir)]
    rfl
  | readBit =>
    have hdir : s.dir = .input := eq_of_beq hgood
    rw [(requireDir_eq_next h).1, exec_readBit (s := withChecks c s) (.inr hdir), readBit_withChecks]
    rfl
  | writeByte v =>
    have hdir : s.dir = .output := eq_of_beq hgood
    rw [(requireDir_eq_next h).1, exec_writeByte v (s := withChecks c s) (.inr hdir), writeValue, writeBits_withChecks]
    rfl
  | readByte =>
    have hdir : s.dir = .input := eq_of_beq hgood
    rw [(requireDir_eq_next h).1, exec_readByte (s := withChecks c s) (.inr hdir), readValue_withChecks]
    rfl
  | transfer req w => rw [(requireRequest_eq_next h).1, exec_transfer w (.inr hgood), transfer_withChecks]
  | reservedC | reservedD | reservedE | reservedF => cases h
  | setDir | formatRequest =>
    cases h
    rfl
  | lineReset =>
    cases h
    exact congrArg Host.Outcome.next (lineReset_withChecks _ c s)
  | apRead a =>
    cases h
    exact congrArg Host.Outcome.next (apRead_withChecks a c s)
  | ackOk | ackWait | ackFault | ackInvalid0 | ackInvalid3 | ackInvalid5 | ackInvalid6 | ackInvalid7 =>
    cases h
    exact congrArg Host.Outcome.next (receiveAck_withChecks _ c s)
  | _ =>
    cases h
    exact congrArg Host.Outcome.next (transfer_withChecks _ _ c s)

end Sys2Proof.Proofs
end

section
/-! SUPPORT. The statements about reset and hazards (70_reset_and_hazards.md), settled. -/

namespace Sys2Proof.Proofs

open Sys2Proof Sys2Proof.Machine Sys2Proof.Safety Sys2Proof.Claims

/-- Settles O60: with nothing presented an idle block rests, and a word that is taken runs an instruction, whose events
continue the history from the direction it explains. -/
theorem checkedStepsAreWellDriven : Obligations.CheckedStepsAreWellDriven := by
  intro s t hchecks hidle hs h
  rcases step_eq_next h with ⟨-, rfl⟩ | ⟨f, rest, i, -, -, -, hexec⟩
  · rwa [resume_idle s hidle]
  · have presented : WellDrivenHistory { s with inbox := rest } := ⟨hs.explained, hs.driven⟩
    have added : AddsWellDriven { s with inbox := rest } t := addsWellDriven_exec hchecks hidle hexec
    exact added.keepsWellDrivenHistory (extends_exec hexec) presented

/-- Settles O16: the guards of the direction and of the request byte, each raised exactly when its check fails. -/
theorem callerMistakesStopWhenChecked : Obligations.CallerMistakesStopWhenChecked := by
  intro s
  simp only [← dir_ne_output_iff, ← dir_ne_input_iff]
  exact ⟨fun _ => requireDir_eq_fault_iff .output _ s _, fun _ => requireDir_eq_fault_iff .output _ s _,
    requireDir_eq_fault_iff .input _ s _, requireDir_eq_fault_iff .input _ s _,
    fun req _ => requireRequest_eq_refused_iff req s _⟩

/-- Settles O17: an instruction that completes for such a caller completes under either treatment. -/
theorem checksInvisibleToGoodCallers : Obligations.ChecksInvisibleToGoodCallers := by
  intro i s t hgood h
  exact exec_withChecks (s := { s with callerChecks := false }) true hgood h

/-- Settles O54: with nothing presented a step resumes the transfer under way, and there is none. -/
theorem stepWithoutInputIsQuiescent : Obligations.StepWithoutInputIsQuiescent := by
  intro s hidle hinbox
  rw [step, hinbox]
  exact congrArg Host.Outcome.next (resume_idle s hidle)

end Sys2Proof.Proofs
end
